-- ==== Sys2Proof/Word.lean ====
section
/-! DEFINITION. The two widths of the machine (00_scope.md section 6, `XLEN8`, `XLEN16`). Arithmetic on
them is `BitVec`'s own, which reduces modulo `2^n` as rule R5 asks. -/

namespace Sys2Proof

/-- The addressable unit and the width of A, F, B, C, D, E, H, L (R10, R40). -/
abbrev Byte := BitVec 8

/-- The width of addresses, composites, SP and PC (R12, R18, R20, R40). -/
abbrev Word := BitVec 16

end Sys2Proof
end

