-- ==== Sys2Proof/Config.lean ====
section
/-! DEFINITION. What is fixed for the machine (00_scope.md section 6), the values an open parameter of the
spec can take, and the one free value. The parameters themselves are data of a launch and stand in
`State.platform` (log 8). -/

namespace Sys2Proof

namespace Config

/-- `PREFIX`, the byte that opens the second opcode space (R70). -/
def prefixByte : Byte := 0xCB#8

/-- `FLAG_Z` (R15). -/
def flagZ : Nat := 7
/-- `FLAG_N` (R15). -/
def flagN : Nat := 6
/-- `FLAG_H` (R15). -/
def flagH : Nat := 5
/-- `FLAG_C` (R15). -/
def flagC : Nat := 4

/-- The bits of F that can hold a 1: bits 3..0 are forced to zero (R17). -/
def flagMask : Byte := 0xF0#8

/-- `ROM_BASE` (R48). -/
def romBase : Word := 0x0000#16
/-- The last address of the fixed cartridge bank ROM0 (R48). -/
def rom0End : Word := 0x3FFF#16
/-- The first address of the switchable cartridge bank ROMX (R48). -/
def romXBase : Word := 0x4000#16
/-- `ROM_END` (R48). -/
def romEnd : Word := 0x7FFF#16
/-- `VRAM_BASE` (R48). -/
def vramBase : Word := 0x8000#16
/-- `VRAM_END` (R48). -/
def vramEnd : Word := 0x9FFF#16
/-- `XRAM_BASE` (R48). -/
def xramBase : Word := 0xA000#16
/-- `XRAM_END` (R48). -/
def xramEnd : Word := 0xBFFF#16
/-- `WRAM_BASE` (R45, R48). -/
def wramBase : Word := 0xC000#16
/-- `WRAM_END` (R48). -/
def wramEnd : Word := 0xDFFF#16
/-- `ECHO_BASE` (R45, R48). -/
def echoBase : Word := 0xE000#16
/-- `ECHO_END` (R45, R48). -/
def echoEnd : Word := 0xFDFF#16
/-- First address of the sprite attribute memory OAM (R48). -/
def oamBase : Word := 0xFE00#16
/-- Last address of OAM (R48). -/
def oamEnd : Word := 0xFE9F#16
/-- `HIGH_PAGE`, the base of high-page addressing (R81) and of the I/O range (R48). -/
def highPage : Word := 0xFF00#16
/-- Last address of the I/O range (R48). -/
def ioEnd : Word := 0xFF7F#16
/-- First address of the high RAM HRAM (R48). -/
def hramBase : Word := 0xFF80#16
/-- Last address of HRAM (R48). -/
def hramEnd : Word := 0xFFFE#16
/-- The address of the byte IE (R48). -/
def ieAddr : Word := 0xFFFF#16

/-- `RESET_PC` (R30). -/
def resetPc : Word := 0x0000#16

/-- What a memory cell that nothing has written reads as. The spec leaves it unspecified (R30); zero is the
model's choice (DESIGN CHOICE, unsafe: log 2). -/
def unwrittenByte : Byte := 0x00#8

end Config

/-- `CART_STORE_POLICY` (R51, decision D17): what a store to a cartridge-mapped region does. -/
inductive CartStorePolicy where
  /-- The store is read back (the reference configuration). -/
  | storage
  /-- The store changes nothing: a plain ROM with no mapper. -/
  | ignore
  /-- The mapper is external: the model refuses the store. -/
  | external
deriving DecidableEq, Repr

/-- `UNMAPPED_POLICY` (R49, decision D4, U1, U2): what a load of an address in no registered region gives.
Stores to it are accepted under each. -/
inductive UnmappedPolicy where
  /-- The last written value (the reference configuration). -/
  | storage
  /-- The source's other option, a fixed pattern. -/
  | pattern (v : Byte)
  /-- Any value: a draw of `Config.unmappedDraw` (U2). -/
  | draw
deriving DecidableEq, Repr

/-- Who reads a byte. It tells two loads of one address in one step apart when loads are draws. -/
inductive Access where
  | fetch
  | data
  | host
deriving DecidableEq, Repr

/-- The free value of the model: what a load of an unmapped address gives under `UnmappedPolicy.draw`, for the
draw counter of the state, the kind of access and the canonical address. It has no body: nothing can be
proved of its values (log 6). -/
opaque Config.unmappedDraw : Nat → Access → Word → Byte

end Sys2Proof
end

