-- ==== Sys2Proof/Syntax.lean ====
section
/-! DEFINITION. The instructions: one constructor per row of opcode_table.json, the eleven rows of format
`ILLEGAL` among them (log 13), and the operand selectors of 30_encoding.md section 2.
In a constructor's name `mHL` is the memory operand `(HL)`, `mHLi` and `mHLd` are `(HL+)` and `(HL-)`, `mBC`, `mDE`,
`mnn`, `mn`, `mC` are `(BC)`, `(DE)`, `(nn)`, `(n)`, `(C)`, and `SPe` is `SP+e`. An operand byte or word is carried as the
bits the instruction holds: `n` (R75), `e`, the raw offset byte (R77), and `nn` (R76). The constructors with operand
bytes stand first: Lean's runtime allows fields only to the first constructors of a large type. -/

namespace Sys2Proof

/-- The 8-bit registers that an operand field can name (R72); F is none of them. -/
inductive Reg8 where
  | A | B | C | D | E | H | L
deriving DecidableEq, Repr

/-- The 16-bit registers: the four composites (R14) and SP (R18). -/
inductive Reg16 where
  | AF | BC | DE | HL | SP
deriving DecidableEq, Repr

/-- The operand of the 3-bit field `r`: a register, or for code 6 the byte at `x[HL]` (R72). -/
inductive Place8 where
  | reg (r : Reg8)
  | mHL
deriving DecidableEq, Repr

/-- The pair field `rp` (R73). -/
inductive Pair where
  | BC | DE | HL | SP
deriving DecidableEq, Repr

/-- The pair field `rp2` of `PUSH` and `POP` (R73). -/
inductive StackPair where
  | BC | DE | HL | AF
deriving DecidableEq, Repr

/-- The condition codes (R74, R83). -/
inductive Cond where
  | NZ | Z | NC | C
deriving DecidableEq, Repr

/-- The selector `alu` (R74). -/
inductive AluOp where
  | ADD | ADC | SUB | SBC | AND | XOR | OR | CP
deriving DecidableEq, Repr

/-- The selector `rot` (R74). -/
inductive RotOp where
  | RLC | RRC | RL | RR | SLA | SRA | SWAP | SRL
deriving DecidableEq, Repr

/-- The eleven primary bytes with no opcode entry (R90). -/
inductive UndefinedOp where
  | xD3 | xDB | xDD | xE3 | xE4 | xEB | xEC | xED | xF4 | xFC | xFD
deriving DecidableEq, Repr

/-- One constructor per row of opcode_table.json. -/
inductive Instr where
  -- 8-bit loads (40_load8.md), with operand bytes
  /-- `LD B,n` (R121). -/
  | ld_B_n (n : Byte)
  /-- `LD C,n` (R121). -/
  | ld_C_n (n : Byte)
  /-- `LD D,n` (R121). -/
  | ld_D_n (n : Byte)
  /-- `LD E,n` (R121). -/
  | ld_E_n (n : Byte)
  /-- `LD H,n` (R121). -/
  | ld_H_n (n : Byte)
  /-- `LD L,n` (R121). -/
  | ld_L_n (n : Byte)
  /-- `LD A,n` (R121). -/
  | ld_A_n (n : Byte)
  /-- `LD (HL),n` (R124). -/
  | ld_mHL_n (n : Byte)
  /-- `LD A,(nn)` (R129). -/
  | ld_A_mnn (nn : Word)
  /-- `LD (nn),A` (R130). -/
  | ld_mnn_A (nn : Word)
  /-- `LDH A,(n)` (R131). -/
  | ldh_A_mn (n : Byte)
  /-- `LDH (n),A` (R132). -/
  | ldh_mn_A (n : Byte)
  -- 16-bit loads and the stack (41_load16_stack.md), with operand bytes
  /-- `LD BC,nn` (R150). -/
  | ld_BC_nn (nn : Word)
  /-- `LD DE,nn` (R150). -/
  | ld_DE_nn (nn : Word)
  /-- `LD HL,nn` (R150). -/
  | ld_HL_nn (nn : Word)
  /-- `LD SP,nn` (R150). -/
  | ld_SP_nn (nn : Word)
  /-- `LD (nn),SP` (R151). -/
  | ld_mnn_SP (nn : Word)
  /-- `LD HL,SP+e` (R153). -/
  | ld_HL_SPe (e : Byte)
  -- 8-bit arithmetic and logic (42_alu8.md), with operand bytes
  /-- `ADD A,n` (R170). -/
  | add_A_n (n : Byte)
  /-- `ADC A,n` (R171). -/
  | adc_A_n (n : Byte)
  /-- `SUB n` (R172). -/
  | sub_n (n : Byte)
  /-- `SBC A,n` (R173). -/
  | sbc_A_n (n : Byte)
  /-- `AND n` (R174). -/
  | and_n (n : Byte)
  /-- `XOR n` (R175). -/
  | xor_n (n : Byte)
  /-- `OR n` (R176). -/
  | or_n (n : Byte)
  /-- `CP n` (R177). -/
  | cp_n (n : Byte)
  -- 16-bit arithmetic (43_alu16.md), with operand bytes
  /-- `ADD SP,e` (R203). -/
  | add_SP_e (e : Byte)
  -- control transfer (46_control.md), with operand bytes
  /-- `JP nn` (R240). -/
  | jp_nn (nn : Word)
  /-- `JP NZ,nn` (R241). -/
  | jp_NZ_nn (nn : Word)
  /-- `JP Z,nn` (R241). -/
  | jp_Z_nn (nn : Word)
  /-- `JP NC,nn` (R241). -/
  | jp_NC_nn (nn : Word)
  /-- `JP C,nn` (R241). -/
  | jp_C_nn (nn : Word)
  /-- `JR e` (R243). -/
  | jr_e (e : Byte)
  /-- `JR NZ,e` (R244). -/
  | jr_NZ_e (e : Byte)
  /-- `JR Z,e` (R244). -/
  | jr_Z_e (e : Byte)
  /-- `JR NC,e` (R244). -/
  | jr_NC_e (e : Byte)
  /-- `JR C,e` (R244). -/
  | jr_C_e (e : Byte)
  /-- `CALL nn` (R245). -/
  | call_nn (nn : Word)
  /-- `CALL NZ,nn` (R246). -/
  | call_NZ_nn (nn : Word)
  /-- `CALL Z,nn` (R246). -/
  | call_Z_nn (nn : Word)
  /-- `CALL NC,nn` (R246). -/
  | call_NC_nn (nn : Word)
  /-- `CALL C,nn` (R246). -/
  | call_C_nn (nn : Word)
  -- system (47_system.md), with operand bytes
  /-- `STOP` (R262). -/
  | stop (n : Byte)
  -- 8-bit loads (40_load8.md), without operand bytes
  /-- `LD B,B` (R120). -/
  | ld_B_B
  /-- `LD B,C` (R120). -/
  | ld_B_C
  /-- `LD B,D` (R120). -/
  | ld_B_D
  /-- `LD B,E` (R120). -/
  | ld_B_E
  /-- `LD B,H` (R120). -/
  | ld_B_H
  /-- `LD B,L` (R120). -/
  | ld_B_L
  /-- `LD B,A` (R120). -/
  | ld_B_A
  /-- `LD C,B` (R120). -/
  | ld_C_B
  /-- `LD C,C` (R120). -/
  | ld_C_C
  /-- `LD C,D` (R120). -/
  | ld_C_D
  /-- `LD C,E` (R120). -/
  | ld_C_E
  /-- `LD C,H` (R120). -/
  | ld_C_H
  /-- `LD C,L` (R120). -/
  | ld_C_L
  /-- `LD C,A` (R120). -/
  | ld_C_A
  /-- `LD D,B` (R120). -/
  | ld_D_B
  /-- `LD D,C` (R120). -/
  | ld_D_C
  /-- `LD D,D` (R120). -/
  | ld_D_D
  /-- `LD D,E` (R120). -/
  | ld_D_E
  /-- `LD D,H` (R120). -/
  | ld_D_H
  /-- `LD D,L` (R120). -/
  | ld_D_L
  /-- `LD D,A` (R120). -/
  | ld_D_A
  /-- `LD E,B` (R120). -/
  | ld_E_B
  /-- `LD E,C` (R120). -/
  | ld_E_C
  /-- `LD E,D` (R120). -/
  | ld_E_D
  /-- `LD E,E` (R120). -/
  | ld_E_E
  /-- `LD E,H` (R120). -/
  | ld_E_H
  /-- `LD E,L` (R120). -/
  | ld_E_L
  /-- `LD E,A` (R120). -/
  | ld_E_A
  /-- `LD H,B` (R120). -/
  | ld_H_B
  /-- `LD H,C` (R120). -/
  | ld_H_C
  /-- `LD H,D` (R120). -/
  | ld_H_D
  /-- `LD H,E` (R120). -/
  | ld_H_E
  /-- `LD H,H` (R120). -/
  | ld_H_H
  /-- `LD H,L` (R120). -/
  | ld_H_L
  /-- `LD H,A` (R120). -/
  | ld_H_A
  /-- `LD L,B` (R120). -/
  | ld_L_B
  /-- `LD L,C` (R120). -/
  | ld_L_C
  /-- `LD L,D` (R120). -/
  | ld_L_D
  /-- `LD L,E` (R120). -/
  | ld_L_E
  /-- `LD L,H` (R120). -/
  | ld_L_H
  /-- `LD L,L` (R120). -/
  | ld_L_L
  /-- `LD L,A` (R120). -/
  | ld_L_A
  /-- `LD A,B` (R120). -/
  | ld_A_B
  /-- `LD A,C` (R120). -/
  | ld_A_C
  /-- `LD A,D` (R120). -/
  | ld_A_D
  /-- `LD A,E` (R120). -/
  | ld_A_E
  /-- `LD A,H` (R120). -/
  | ld_A_H
  /-- `LD A,L` (R120). -/
  | ld_A_L
  /-- `LD A,A` (R120). -/
  | ld_A_A
  /-- `LD B,(HL)` (R122). -/
  | ld_B_mHL
  /-- `LD C,(HL)` (R122). -/
  | ld_C_mHL
  /-- `LD D,(HL)` (R122). -/
  | ld_D_mHL
  /-- `LD E,(HL)` (R122). -/
  | ld_E_mHL
  /-- `LD H,(HL)` (R122). -/
  | ld_H_mHL
  /-- `LD L,(HL)` (R122). -/
  | ld_L_mHL
  /-- `LD A,(HL)` (R122). -/
  | ld_A_mHL
  /-- `LD (HL),B` (R123). -/
  | ld_mHL_B
  /-- `LD (HL),C` (R123). -/
  | ld_mHL_C
  /-- `LD (HL),D` (R123). -/
  | ld_mHL_D
  /-- `LD (HL),E` (R123). -/
  | ld_mHL_E
  /-- `LD (HL),H` (R123). -/
  | ld_mHL_H
  /-- `LD (HL),L` (R123). -/
  | ld_mHL_L
  /-- `LD (HL),A` (R123). -/
  | ld_mHL_A
  /-- `LD A,(BC)` (R125). -/
  | ld_A_mBC
  /-- `LD A,(DE)` (R126). -/
  | ld_A_mDE
  /-- `LD (BC),A` (R127). -/
  | ld_mBC_A
  /-- `LD (DE),A` (R128). -/
  | ld_mDE_A
  /-- `LD A,(C)` (R133). -/
  | ld_A_mC
  /-- `LD (C),A` (R134). -/
  | ld_mC_A
  /-- `LD (HL+),A` (R135). -/
  | ld_mHLi_A
  /-- `LD A,(HL+)` (R136). -/
  | ld_A_mHLi
  /-- `LD (HL-),A` (R137). -/
  | ld_mHLd_A
  /-- `LD A,(HL-)` (R138). -/
  | ld_A_mHLd
  -- 16-bit loads and the stack (41_load16_stack.md), without operand bytes
  /-- `LD SP,HL` (R152). -/
  | ld_SP_HL
  /-- `PUSH BC` (R154). -/
  | push_BC
  /-- `PUSH DE` (R154). -/
  | push_DE
  /-- `PUSH HL` (R154). -/
  | push_HL
  /-- `PUSH AF` (R154). -/
  | push_AF
  /-- `POP BC` (R155). -/
  | pop_BC
  /-- `POP DE` (R155). -/
  | pop_DE
  /-- `POP HL` (R155). -/
  | pop_HL
  /-- `POP AF` (R155). -/
  | pop_AF
  -- 8-bit arithmetic and logic (42_alu8.md), without operand bytes
  /-- `ADD A,B` (R170). -/
  | add_A_B
  /-- `ADD A,C` (R170). -/
  | add_A_C
  /-- `ADD A,D` (R170). -/
  | add_A_D
  /-- `ADD A,E` (R170). -/
  | add_A_E
  /-- `ADD A,H` (R170). -/
  | add_A_H
  /-- `ADD A,L` (R170). -/
  | add_A_L
  /-- `ADD A,(HL)` (R170). -/
  | add_A_mHL
  /-- `ADD A,A` (R170). -/
  | add_A_A
  /-- `ADC A,B` (R171). -/
  | adc_A_B
  /-- `ADC A,C` (R171). -/
  | adc_A_C
  /-- `ADC A,D` (R171). -/
  | adc_A_D
  /-- `ADC A,E` (R171). -/
  | adc_A_E
  /-- `ADC A,H` (R171). -/
  | adc_A_H
  /-- `ADC A,L` (R171). -/
  | adc_A_L
  /-- `ADC A,(HL)` (R171). -/
  | adc_A_mHL
  /-- `ADC A,A` (R171). -/
  | adc_A_A
  /-- `SUB B` (R172). -/
  | sub_B
  /-- `SUB C` (R172). -/
  | sub_C
  /-- `SUB D` (R172). -/
  | sub_D
  /-- `SUB E` (R172). -/
  | sub_E
  /-- `SUB H` (R172). -/
  | sub_H
  /-- `SUB L` (R172). -/
  | sub_L
  /-- `SUB (HL)` (R172). -/
  | sub_mHL
  /-- `SUB A` (R172). -/
  | sub_A
  /-- `SBC A,B` (R173). -/
  | sbc_A_B
  /-- `SBC A,C` (R173). -/
  | sbc_A_C
  /-- `SBC A,D` (R173). -/
  | sbc_A_D
  /-- `SBC A,E` (R173). -/
  | sbc_A_E
  /-- `SBC A,H` (R173). -/
  | sbc_A_H
  /-- `SBC A,L` (R173). -/
  | sbc_A_L
  /-- `SBC A,(HL)` (R173). -/
  | sbc_A_mHL
  /-- `SBC A,A` (R173). -/
  | sbc_A_A
  /-- `AND B` (R174). -/
  | and_B
  /-- `AND C` (R174). -/
  | and_C
  /-- `AND D` (R174). -/
  | and_D
  /-- `AND E` (R174). -/
  | and_E
  /-- `AND H` (R174). -/
  | and_H
  /-- `AND L` (R174). -/
  | and_L
  /-- `AND (HL)` (R174). -/
  | and_mHL
  /-- `AND A` (R174). -/
  | and_A
  /-- `XOR B` (R175). -/
  | xor_B
  /-- `XOR C` (R175). -/
  | xor_C
  /-- `XOR D` (R175). -/
  | xor_D
  /-- `XOR E` (R175). -/
  | xor_E
  /-- `XOR H` (R175). -/
  | xor_H
  /-- `XOR L` (R175). -/
  | xor_L
  /-- `XOR (HL)` (R175). -/
  | xor_mHL
  /-- `XOR A` (R175). -/
  | xor_A
  /-- `OR B` (R176). -/
  | or_B
  /-- `OR C` (R176). -/
  | or_C
  /-- `OR D` (R176). -/
  | or_D
  /-- `OR E` (R176). -/
  | or_E
  /-- `OR H` (R176). -/
  | or_H
  /-- `OR L` (R176). -/
  | or_L
  /-- `OR (HL)` (R176). -/
  | or_mHL
  /-- `OR A` (R176). -/
  | or_A
  /-- `CP B` (R177). -/
  | cp_B
  /-- `CP C` (R177). -/
  | cp_C
  /-- `CP D` (R177). -/
  | cp_D
  /-- `CP E` (R177). -/
  | cp_E
  /-- `CP H` (R177). -/
  | cp_H
  /-- `CP L` (R177). -/
  | cp_L
  /-- `CP (HL)` (R177). -/
  | cp_mHL
  /-- `CP A` (R177). -/
  | cp_A
  /-- `INC B` (R178). -/
  | inc_B
  /-- `INC C` (R178). -/
  | inc_C
  /-- `INC D` (R178). -/
  | inc_D
  /-- `INC E` (R178). -/
  | inc_E
  /-- `INC H` (R178). -/
  | inc_H
  /-- `INC L` (R178). -/
  | inc_L
  /-- `INC (HL)` (R178). -/
  | inc_mHL
  /-- `INC A` (R178). -/
  | inc_A
  /-- `DEC B` (R179). -/
  | dec_B
  /-- `DEC C` (R179). -/
  | dec_C
  /-- `DEC D` (R179). -/
  | dec_D
  /-- `DEC E` (R179). -/
  | dec_E
  /-- `DEC H` (R179). -/
  | dec_H
  /-- `DEC L` (R179). -/
  | dec_L
  /-- `DEC (HL)` (R179). -/
  | dec_mHL
  /-- `DEC A` (R179). -/
  | dec_A
  /-- `DAA` (R180). -/
  | daa
  /-- `CPL` (R181). -/
  | cpl
  /-- `SCF` (R182). -/
  | scf
  /-- `CCF` (R183). -/
  | ccf
  -- 16-bit arithmetic (43_alu16.md), without operand bytes
  /-- `ADD HL,BC` (R200). -/
  | add_HL_BC
  /-- `ADD HL,DE` (R200). -/
  | add_HL_DE
  /-- `ADD HL,HL` (R200). -/
  | add_HL_HL
  /-- `ADD HL,SP` (R200). -/
  | add_HL_SP
  /-- `INC BC` (R201). -/
  | inc_BC
  /-- `INC DE` (R201). -/
  | inc_DE
  /-- `INC HL` (R201). -/
  | inc_HL
  /-- `INC SP` (R201). -/
  | inc_SP
  /-- `DEC BC` (R202). -/
  | dec_BC
  /-- `DEC DE` (R202). -/
  | dec_DE
  /-- `DEC HL` (R202). -/
  | dec_HL
  /-- `DEC SP` (R202). -/
  | dec_SP
  -- rotates and shifts (44_rotate_shift.md), without operand bytes
  /-- `RLCA` (R210). -/
  | rlca
  /-- `RRCA` (R211). -/
  | rrca
  /-- `RLA` (R212). -/
  | rla
  /-- `RRA` (R213). -/
  | rra
  /-- `RLC B` (R214). -/
  | rlc_B
  /-- `RLC C` (R214). -/
  | rlc_C
  /-- `RLC D` (R214). -/
  | rlc_D
  /-- `RLC E` (R214). -/
  | rlc_E
  /-- `RLC H` (R214). -/
  | rlc_H
  /-- `RLC L` (R214). -/
  | rlc_L
  /-- `RLC (HL)` (R214). -/
  | rlc_mHL
  /-- `RLC A` (R214). -/
  | rlc_A
  /-- `RRC B` (R215). -/
  | rrc_B
  /-- `RRC C` (R215). -/
  | rrc_C
  /-- `RRC D` (R215). -/
  | rrc_D
  /-- `RRC E` (R215). -/
  | rrc_E
  /-- `RRC H` (R215). -/
  | rrc_H
  /-- `RRC L` (R215). -/
  | rrc_L
  /-- `RRC (HL)` (R215). -/
  | rrc_mHL
  /-- `RRC A` (R215). -/
  | rrc_A
  /-- `RL B` (R216). -/
  | rl_B
  /-- `RL C` (R216). -/
  | rl_C
  /-- `RL D` (R216). -/
  | rl_D
  /-- `RL E` (R216). -/
  | rl_E
  /-- `RL H` (R216). -/
  | rl_H
  /-- `RL L` (R216). -/
  | rl_L
  /-- `RL (HL)` (R216). -/
  | rl_mHL
  /-- `RL A` (R216). -/
  | rl_A
  /-- `RR B` (R217). -/
  | rr_B
  /-- `RR C` (R217). -/
  | rr_C
  /-- `RR D` (R217). -/
  | rr_D
  /-- `RR E` (R217). -/
  | rr_E
  /-- `RR H` (R217). -/
  | rr_H
  /-- `RR L` (R217). -/
  | rr_L
  /-- `RR (HL)` (R217). -/
  | rr_mHL
  /-- `RR A` (R217). -/
  | rr_A
  /-- `SLA B` (R218). -/
  | sla_B
  /-- `SLA C` (R218). -/
  | sla_C
  /-- `SLA D` (R218). -/
  | sla_D
  /-- `SLA E` (R218). -/
  | sla_E
  /-- `SLA H` (R218). -/
  | sla_H
  /-- `SLA L` (R218). -/
  | sla_L
  /-- `SLA (HL)` (R218). -/
  | sla_mHL
  /-- `SLA A` (R218). -/
  | sla_A
  /-- `SRA B` (R219). -/
  | sra_B
  /-- `SRA C` (R219). -/
  | sra_C
  /-- `SRA D` (R219). -/
  | sra_D
  /-- `SRA E` (R219). -/
  | sra_E
  /-- `SRA H` (R219). -/
  | sra_H
  /-- `SRA L` (R219). -/
  | sra_L
  /-- `SRA (HL)` (R219). -/
  | sra_mHL
  /-- `SRA A` (R219). -/
  | sra_A
  /-- `SWAP B` (R220). -/
  | swap_B
  /-- `SWAP C` (R220). -/
  | swap_C
  /-- `SWAP D` (R220). -/
  | swap_D
  /-- `SWAP E` (R220). -/
  | swap_E
  /-- `SWAP H` (R220). -/
  | swap_H
  /-- `SWAP L` (R220). -/
  | swap_L
  /-- `SWAP (HL)` (R220). -/
  | swap_mHL
  /-- `SWAP A` (R220). -/
  | swap_A
  /-- `SRL B` (R221). -/
  | srl_B
  /-- `SRL C` (R221). -/
  | srl_C
  /-- `SRL D` (R221). -/
  | srl_D
  /-- `SRL E` (R221). -/
  | srl_E
  /-- `SRL H` (R221). -/
  | srl_H
  /-- `SRL L` (R221). -/
  | srl_L
  /-- `SRL (HL)` (R221). -/
  | srl_mHL
  /-- `SRL A` (R221). -/
  | srl_A
  -- bit operations (45_bit.md), without operand bytes
  /-- `BIT 0,B` (R230). -/
  | bit_0_B
  /-- `BIT 0,C` (R230). -/
  | bit_0_C
  /-- `BIT 0,D` (R230). -/
  | bit_0_D
  /-- `BIT 0,E` (R230). -/
  | bit_0_E
  /-- `BIT 0,H` (R230). -/
  | bit_0_H
  /-- `BIT 0,L` (R230). -/
  | bit_0_L
  /-- `BIT 0,(HL)` (R230). -/
  | bit_0_mHL
  /-- `BIT 0,A` (R230). -/
  | bit_0_A
  /-- `BIT 1,B` (R230). -/
  | bit_1_B
  /-- `BIT 1,C` (R230). -/
  | bit_1_C
  /-- `BIT 1,D` (R230). -/
  | bit_1_D
  /-- `BIT 1,E` (R230). -/
  | bit_1_E
  /-- `BIT 1,H` (R230). -/
  | bit_1_H
  /-- `BIT 1,L` (R230). -/
  | bit_1_L
  /-- `BIT 1,(HL)` (R230). -/
  | bit_1_mHL
  /-- `BIT 1,A` (R230). -/
  | bit_1_A
  /-- `BIT 2,B` (R230). -/
  | bit_2_B
  /-- `BIT 2,C` (R230). -/
  | bit_2_C
  /-- `BIT 2,D` (R230). -/
  | bit_2_D
  /-- `BIT 2,E` (R230). -/
  | bit_2_E
  /-- `BIT 2,H` (R230). -/
  | bit_2_H
  /-- `BIT 2,L` (R230). -/
  | bit_2_L
  /-- `BIT 2,(HL)` (R230). -/
  | bit_2_mHL
  /-- `BIT 2,A` (R230). -/
  | bit_2_A
  /-- `BIT 3,B` (R230). -/
  | bit_3_B
  /-- `BIT 3,C` (R230). -/
  | bit_3_C
  /-- `BIT 3,D` (R230). -/
  | bit_3_D
  /-- `BIT 3,E` (R230). -/
  | bit_3_E
  /-- `BIT 3,H` (R230). -/
  | bit_3_H
  /-- `BIT 3,L` (R230). -/
  | bit_3_L
  /-- `BIT 3,(HL)` (R230). -/
  | bit_3_mHL
  /-- `BIT 3,A` (R230). -/
  | bit_3_A
  /-- `BIT 4,B` (R230). -/
  | bit_4_B
  /-- `BIT 4,C` (R230). -/
  | bit_4_C
  /-- `BIT 4,D` (R230). -/
  | bit_4_D
  /-- `BIT 4,E` (R230). -/
  | bit_4_E
  /-- `BIT 4,H` (R230). -/
  | bit_4_H
  /-- `BIT 4,L` (R230). -/
  | bit_4_L
  /-- `BIT 4,(HL)` (R230). -/
  | bit_4_mHL
  /-- `BIT 4,A` (R230). -/
  | bit_4_A
  /-- `BIT 5,B` (R230). -/
  | bit_5_B
  /-- `BIT 5,C` (R230). -/
  | bit_5_C
  /-- `BIT 5,D` (R230). -/
  | bit_5_D
  /-- `BIT 5,E` (R230). -/
  | bit_5_E
  /-- `BIT 5,H` (R230). -/
  | bit_5_H
  /-- `BIT 5,L` (R230). -/
  | bit_5_L
  /-- `BIT 5,(HL)` (R230). -/
  | bit_5_mHL
  /-- `BIT 5,A` (R230). -/
  | bit_5_A
  /-- `BIT 6,B` (R230). -/
  | bit_6_B
  /-- `BIT 6,C` (R230). -/
  | bit_6_C
  /-- `BIT 6,D` (R230). -/
  | bit_6_D
  /-- `BIT 6,E` (R230). -/
  | bit_6_E
  /-- `BIT 6,H` (R230). -/
  | bit_6_H
  /-- `BIT 6,L` (R230). -/
  | bit_6_L
  /-- `BIT 6,(HL)` (R230). -/
  | bit_6_mHL
  /-- `BIT 6,A` (R230). -/
  | bit_6_A
  /-- `BIT 7,B` (R230). -/
  | bit_7_B
  /-- `BIT 7,C` (R230). -/
  | bit_7_C
  /-- `BIT 7,D` (R230). -/
  | bit_7_D
  /-- `BIT 7,E` (R230). -/
  | bit_7_E
  /-- `BIT 7,H` (R230). -/
  | bit_7_H
  /-- `BIT 7,L` (R230). -/
  | bit_7_L
  /-- `BIT 7,(HL)` (R230). -/
  | bit_7_mHL
  /-- `BIT 7,A` (R230). -/
  | bit_7_A
  /-- `RES 0,B` (R231). -/
  | res_0_B
  /-- `RES 0,C` (R231). -/
  | res_0_C
  /-- `RES 0,D` (R231). -/
  | res_0_D
  /-- `RES 0,E` (R231). -/
  | res_0_E
  /-- `RES 0,H` (R231). -/
  | res_0_H
  /-- `RES 0,L` (R231). -/
  | res_0_L
  /-- `RES 0,(HL)` (R231). -/
  | res_0_mHL
  /-- `RES 0,A` (R231). -/
  | res_0_A
  /-- `RES 1,B` (R231). -/
  | res_1_B
  /-- `RES 1,C` (R231). -/
  | res_1_C
  /-- `RES 1,D` (R231). -/
  | res_1_D
  /-- `RES 1,E` (R231). -/
  | res_1_E
  /-- `RES 1,H` (R231). -/
  | res_1_H
  /-- `RES 1,L` (R231). -/
  | res_1_L
  /-- `RES 1,(HL)` (R231). -/
  | res_1_mHL
  /-- `RES 1,A` (R231). -/
  | res_1_A
  /-- `RES 2,B` (R231). -/
  | res_2_B
  /-- `RES 2,C` (R231). -/
  | res_2_C
  /-- `RES 2,D` (R231). -/
  | res_2_D
  /-- `RES 2,E` (R231). -/
  | res_2_E
  /-- `RES 2,H` (R231). -/
  | res_2_H
  /-- `RES 2,L` (R231). -/
  | res_2_L
  /-- `RES 2,(HL)` (R231). -/
  | res_2_mHL
  /-- `RES 2,A` (R231). -/
  | res_2_A
  /-- `RES 3,B` (R231). -/
  | res_3_B
  /-- `RES 3,C` (R231). -/
  | res_3_C
  /-- `RES 3,D` (R231). -/
  | res_3_D
  /-- `RES 3,E` (R231). -/
  | res_3_E
  /-- `RES 3,H` (R231). -/
  | res_3_H
  /-- `RES 3,L` (R231). -/
  | res_3_L
  /-- `RES 3,(HL)` (R231). -/
  | res_3_mHL
  /-- `RES 3,A` (R231). -/
  | res_3_A
  /-- `RES 4,B` (R231). -/
  | res_4_B
  /-- `RES 4,C` (R231). -/
  | res_4_C
  /-- `RES 4,D` (R231). -/
  | res_4_D
  /-- `RES 4,E` (R231). -/
  | res_4_E
  /-- `RES 4,H` (R231). -/
  | res_4_H
  /-- `RES 4,L` (R231). -/
  | res_4_L
  /-- `RES 4,(HL)` (R231). -/
  | res_4_mHL
  /-- `RES 4,A` (R231). -/
  | res_4_A
  /-- `RES 5,B` (R231). -/
  | res_5_B
  /-- `RES 5,C` (R231). -/
  | res_5_C
  /-- `RES 5,D` (R231). -/
  | res_5_D
  /-- `RES 5,E` (R231). -/
  | res_5_E
  /-- `RES 5,H` (R231). -/
  | res_5_H
  /-- `RES 5,L` (R231). -/
  | res_5_L
  /-- `RES 5,(HL)` (R231). -/
  | res_5_mHL
  /-- `RES 5,A` (R231). -/
  | res_5_A
  /-- `RES 6,B` (R231). -/
  | res_6_B
  /-- `RES 6,C` (R231). -/
  | res_6_C
  /-- `RES 6,D` (R231). -/
  | res_6_D
  /-- `RES 6,E` (R231). -/
  | res_6_E
  /-- `RES 6,H` (R231). -/
  | res_6_H
  /-- `RES 6,L` (R231). -/
  | res_6_L
  /-- `RES 6,(HL)` (R231). -/
  | res_6_mHL
  /-- `RES 6,A` (R231). -/
  | res_6_A
  /-- `RES 7,B` (R231). -/
  | res_7_B
  /-- `RES 7,C` (R231). -/
  | res_7_C
  /-- `RES 7,D` (R231). -/
  | res_7_D
  /-- `RES 7,E` (R231). -/
  | res_7_E
  /-- `RES 7,H` (R231). -/
  | res_7_H
  /-- `RES 7,L` (R231). -/
  | res_7_L
  /-- `RES 7,(HL)` (R231). -/
  | res_7_mHL
  /-- `RES 7,A` (R231). -/
  | res_7_A
  /-- `SET 0,B` (R232). -/
  | set_0_B
  /-- `SET 0,C` (R232). -/
  | set_0_C
  /-- `SET 0,D` (R232). -/
  | set_0_D
  /-- `SET 0,E` (R232). -/
  | set_0_E
  /-- `SET 0,H` (R232). -/
  | set_0_H
  /-- `SET 0,L` (R232). -/
  | set_0_L
  /-- `SET 0,(HL)` (R232). -/
  | set_0_mHL
  /-- `SET 0,A` (R232). -/
  | set_0_A
  /-- `SET 1,B` (R232). -/
  | set_1_B
  /-- `SET 1,C` (R232). -/
  | set_1_C
  /-- `SET 1,D` (R232). -/
  | set_1_D
  /-- `SET 1,E` (R232). -/
  | set_1_E
  /-- `SET 1,H` (R232). -/
  | set_1_H
  /-- `SET 1,L` (R232). -/
  | set_1_L
  /-- `SET 1,(HL)` (R232). -/
  | set_1_mHL
  /-- `SET 1,A` (R232). -/
  | set_1_A
  /-- `SET 2,B` (R232). -/
  | set_2_B
  /-- `SET 2,C` (R232). -/
  | set_2_C
  /-- `SET 2,D` (R232). -/
  | set_2_D
  /-- `SET 2,E` (R232). -/
  | set_2_E
  /-- `SET 2,H` (R232). -/
  | set_2_H
  /-- `SET 2,L` (R232). -/
  | set_2_L
  /-- `SET 2,(HL)` (R232). -/
  | set_2_mHL
  /-- `SET 2,A` (R232). -/
  | set_2_A
  /-- `SET 3,B` (R232). -/
  | set_3_B
  /-- `SET 3,C` (R232). -/
  | set_3_C
  /-- `SET 3,D` (R232). -/
  | set_3_D
  /-- `SET 3,E` (R232). -/
  | set_3_E
  /-- `SET 3,H` (R232). -/
  | set_3_H
  /-- `SET 3,L` (R232). -/
  | set_3_L
  /-- `SET 3,(HL)` (R232). -/
  | set_3_mHL
  /-- `SET 3,A` (R232). -/
  | set_3_A
  /-- `SET 4,B` (R232). -/
  | set_4_B
  /-- `SET 4,C` (R232). -/
  | set_4_C
  /-- `SET 4,D` (R232). -/
  | set_4_D
  /-- `SET 4,E` (R232). -/
  | set_4_E
  /-- `SET 4,H` (R232). -/
  | set_4_H
  /-- `SET 4,L` (R232). -/
  | set_4_L
  /-- `SET 4,(HL)` (R232). -/
  | set_4_mHL
  /-- `SET 4,A` (R232). -/
  | set_4_A
  /-- `SET 5,B` (R232). -/
  | set_5_B
  /-- `SET 5,C` (R232). -/
  | set_5_C
  /-- `SET 5,D` (R232). -/
  | set_5_D
  /-- `SET 5,E` (R232). -/
  | set_5_E
  /-- `SET 5,H` (R232). -/
  | set_5_H
  /-- `SET 5,L` (R232). -/
  | set_5_L
  /-- `SET 5,(HL)` (R232). -/
  | set_5_mHL
  /-- `SET 5,A` (R232). -/
  | set_5_A
  /-- `SET 6,B` (R232). -/
  | set_6_B
  /-- `SET 6,C` (R232). -/
  | set_6_C
  /-- `SET 6,D` (R232). -/
  | set_6_D
  /-- `SET 6,E` (R232). -/
  | set_6_E
  /-- `SET 6,H` (R232). -/
  | set_6_H
  /-- `SET 6,L` (R232). -/
  | set_6_L
  /-- `SET 6,(HL)` (R232). -/
  | set_6_mHL
  /-- `SET 6,A` (R232). -/
  | set_6_A
  /-- `SET 7,B` (R232). -/
  | set_7_B
  /-- `SET 7,C` (R232). -/
  | set_7_C
  /-- `SET 7,D` (R232). -/
  | set_7_D
  /-- `SET 7,E` (R232). -/
  | set_7_E
  /-- `SET 7,H` (R232). -/
  | set_7_H
  /-- `SET 7,L` (R232). -/
  | set_7_L
  /-- `SET 7,(HL)` (R232). -/
  | set_7_mHL
  /-- `SET 7,A` (R232). -/
  | set_7_A
  -- control transfer (46_control.md), without operand bytes
  /-- `JP HL` (R242). -/
  | jp_HL
  /-- `RET` (R250). -/
  | ret
  /-- `RET NZ` (R251). -/
  | ret_NZ
  /-- `RET Z` (R251). -/
  | ret_Z
  /-- `RET NC` (R251). -/
  | ret_NC
  /-- `RET C` (R251). -/
  | ret_C
  /-- `RETI` (R252). -/
  | reti
  /-- `RST 00H` (R253). -/
  | rst_00
  /-- `RST 08H` (R253). -/
  | rst_08
  /-- `RST 10H` (R253). -/
  | rst_10
  /-- `RST 18H` (R253). -/
  | rst_18
  /-- `RST 20H` (R253). -/
  | rst_20
  /-- `RST 28H` (R253). -/
  | rst_28
  /-- `RST 30H` (R253). -/
  | rst_30
  /-- `RST 38H` (R253). -/
  | rst_38
  -- system (47_system.md), without operand bytes
  /-- `NOP` (R260). -/
  | nop
  /-- `HALT` (R261). -/
  | halt
  /-- `DI` (R263). -/
  | di
  /-- `EI` (R264). -/
  | ei
  -- the undefined bytes (30_encoding.md R90, 60_exceptions.md R270), without operand bytes
  /-- `ILLEGAL_D3` (R270). -/
  | illegal_D3
  /-- `ILLEGAL_DB` (R270). -/
  | illegal_DB
  /-- `ILLEGAL_DD` (R270). -/
  | illegal_DD
  /-- `ILLEGAL_E3` (R270). -/
  | illegal_E3
  /-- `ILLEGAL_E4` (R270). -/
  | illegal_E4
  /-- `ILLEGAL_EB` (R270). -/
  | illegal_EB
  /-- `ILLEGAL_EC` (R270). -/
  | illegal_EC
  /-- `ILLEGAL_ED` (R270). -/
  | illegal_ED
  /-- `ILLEGAL_F4` (R270). -/
  | illegal_F4
  /-- `ILLEGAL_FC` (R270). -/
  | illegal_FC
  /-- `ILLEGAL_FD` (R270). -/
  | illegal_FD
deriving DecidableEq, Repr

end Sys2Proof
end

