-- ==== Sys2Proof/WellFormed.lean ====
section
/-! DEFINITION. Well-formedness. An operand of `Instr` has its declared width by its type, so what is left to
check of an instruction is that its opcode byte has an entry (R90). Where an operand comes from outside the
machine as a number, the range checks of R97 stand between it and the typed operand. -/

namespace Sys2Proof

/-- An instruction is well formed when it is a defined one, not the row of an undefined byte (R90). -/
def Instr.wellFormed : Instr → Bool
  | .illegal_D3 | .illegal_DB | .illegal_DD | .illegal_E3 | .illegal_E4 | .illegal_EB | .illegal_EC | .illegal_ED | .illegal_F4 | .illegal_FC | .illegal_FD => false
  | _ => true

/-- The encoding error of R97; only an assembler can meet it. -/
inductive EncodingError where
  | imm8OutOfRange (n : Nat)
  | imm16OutOfRange (nn : Nat)
  | offsetOutOfRange (e : Int)
deriving DecidableEq, Repr

/-- `n` must fit in a byte (R97). -/
def encodeImm8 (n : Nat) : Except EncodingError Byte :=
  if n ≤ 0xFF then .ok (BitVec.ofNat 8 n) else .error (.imm8OutOfRange n)

/-- `nn` must fit in a word (R97). -/
def encodeImm16 (nn : Nat) : Except EncodingError Word :=
  if nn ≤ 0xFFFF then .ok (BitVec.ofNat 16 nn) else .error (.imm16OutOfRange nn)

/-- `e` must lie in -128..127 (R97); the byte is its two's complement (R77). -/
def encodeOffset (e : Int) : Except EncodingError Byte :=
  if -128 ≤ e ∧ e ≤ 127 then .ok (BitVec.ofInt 8 e) else .error (.offsetOutOfRange e)

/-- Whether an encoding was accepted. -/
def accepted {α : Type} : Except EncodingError α → Bool
  | .ok _ => true
  | .error _ => false

end Sys2Proof
end

