-- ==== Sys2Proof/Decode.lean ====
section
/-! DEFINITION. Bytes and words, the decoder written from the grids of 30_encoding.md (rules R84 to R90), and after
it the encoder written from opcode_table.json. -/

namespace Sys2Proof

/-! ## Bytes and words -/

/-- Bits 7..0 of a word. -/
def loByte (w : Word) : Byte := w.setWidth 8

/-- Bits 15..8 of a word. -/
def hiByte (w : Word) : Byte := (w >>> 8).setWidth 8

/-- `hi :: lo`, the high byte in the more significant position (R12, R43, R76). -/
def joinBytes (hi lo : Byte) : Word := hi ++ lo

/-- `sext_16` (00_scope.md section 7; R77). -/
def sext16 (b : Byte) : Word := if b.toNat ≤ 127 then b.setWidth 16 else 0xFF00#16 + b.setWidth 16

/-- `zext_16` (00_scope.md section 7). -/
def zext16 (b : Byte) : Word := b.setWidth 16

/-- `e8`, the signed reading of an offset byte (R77). -/
def e8 (b : Byte) : Int := if b.toNat ≤ 127 then b.toNat else (b.toNat : Int) - 256

/-! ## Opcode families

The rows of a family share one operation; each function gives the row for the field values. -/

/-- `LD r,r'` (R86, R120). -/
def ldRR : Reg8 → Reg8 → Instr
  | .B, .B => .ld_B_B
  | .B, .C => .ld_B_C
  | .B, .D => .ld_B_D
  | .B, .E => .ld_B_E
  | .B, .H => .ld_B_H
  | .B, .L => .ld_B_L
  | .B, .A => .ld_B_A
  | .C, .B => .ld_C_B
  | .C, .C => .ld_C_C
  | .C, .D => .ld_C_D
  | .C, .E => .ld_C_E
  | .C, .H => .ld_C_H
  | .C, .L => .ld_C_L
  | .C, .A => .ld_C_A
  | .D, .B => .ld_D_B
  | .D, .C => .ld_D_C
  | .D, .D => .ld_D_D
  | .D, .E => .ld_D_E
  | .D, .H => .ld_D_H
  | .D, .L => .ld_D_L
  | .D, .A => .ld_D_A
  | .E, .B => .ld_E_B
  | .E, .C => .ld_E_C
  | .E, .D => .ld_E_D
  | .E, .E => .ld_E_E
  | .E, .H => .ld_E_H
  | .E, .L => .ld_E_L
  | .E, .A => .ld_E_A
  | .H, .B => .ld_H_B
  | .H, .C => .ld_H_C
  | .H, .D => .ld_H_D
  | .H, .E => .ld_H_E
  | .H, .H => .ld_H_H
  | .H, .L => .ld_H_L
  | .H, .A => .ld_H_A
  | .L, .B => .ld_L_B
  | .L, .C => .ld_L_C
  | .L, .D => .ld_L_D
  | .L, .E => .ld_L_E
  | .L, .H => .ld_L_H
  | .L, .L => .ld_L_L
  | .L, .A => .ld_L_A
  | .A, .B => .ld_A_B
  | .A, .C => .ld_A_C
  | .A, .D => .ld_A_D
  | .A, .E => .ld_A_E
  | .A, .H => .ld_A_H
  | .A, .L => .ld_A_L
  | .A, .A => .ld_A_A

/-- `LD r,n` (R85, R121). -/
def ldRN : Reg8 → Byte → Instr
  | .B, n => .ld_B_n n
  | .C, n => .ld_C_n n
  | .D, n => .ld_D_n n
  | .E, n => .ld_E_n n
  | .H, n => .ld_H_n n
  | .L, n => .ld_L_n n
  | .A, n => .ld_A_n n

/-- `LD r,(HL)` (R86, R122). -/
def ldRM : Reg8 → Instr
  | .B => .ld_B_mHL
  | .C => .ld_C_mHL
  | .D => .ld_D_mHL
  | .E => .ld_E_mHL
  | .H => .ld_H_mHL
  | .L => .ld_L_mHL
  | .A => .ld_A_mHL

/-- `LD (HL),r` (R86, R123). -/
def ldMR : Reg8 → Instr
  | .B => .ld_mHL_B
  | .C => .ld_mHL_C
  | .D => .ld_mHL_D
  | .E => .ld_mHL_E
  | .H => .ld_mHL_H
  | .L => .ld_mHL_L
  | .A => .ld_mHL_A

/-- `LD rr,nn` (R85, R150). -/
def ldPairNN : Pair → Word → Instr
  | .BC, nn => .ld_BC_nn nn
  | .DE, nn => .ld_DE_nn nn
  | .HL, nn => .ld_HL_nn nn
  | .SP, nn => .ld_SP_nn nn

/-- `PUSH rr` (R88, R154). -/
def pushP : StackPair → Instr
  | .BC => .push_BC
  | .DE => .push_DE
  | .HL => .push_HL
  | .AF => .push_AF

/-- `POP rr` (R88, R155). -/
def popP : StackPair → Instr
  | .BC => .pop_BC
  | .DE => .pop_DE
  | .HL => .pop_HL
  | .AF => .pop_AF

/-- The accumulator operations on a register or on `(HL)` (R87, R170 to R177). -/
def aluP : AluOp → Place8 → Instr
  | .ADD, .reg .B => .add_A_B
  | .ADD, .reg .C => .add_A_C
  | .ADD, .reg .D => .add_A_D
  | .ADD, .reg .E => .add_A_E
  | .ADD, .reg .H => .add_A_H
  | .ADD, .reg .L => .add_A_L
  | .ADD, .mHL => .add_A_mHL
  | .ADD, .reg .A => .add_A_A
  | .ADC, .reg .B => .adc_A_B
  | .ADC, .reg .C => .adc_A_C
  | .ADC, .reg .D => .adc_A_D
  | .ADC, .reg .E => .adc_A_E
  | .ADC, .reg .H => .adc_A_H
  | .ADC, .reg .L => .adc_A_L
  | .ADC, .mHL => .adc_A_mHL
  | .ADC, .reg .A => .adc_A_A
  | .SUB, .reg .B => .sub_B
  | .SUB, .reg .C => .sub_C
  | .SUB, .reg .D => .sub_D
  | .SUB, .reg .E => .sub_E
  | .SUB, .reg .H => .sub_H
  | .SUB, .reg .L => .sub_L
  | .SUB, .mHL => .sub_mHL
  | .SUB, .reg .A => .sub_A
  | .SBC, .reg .B => .sbc_A_B
  | .SBC, .reg .C => .sbc_A_C
  | .SBC, .reg .D => .sbc_A_D
  | .SBC, .reg .E => .sbc_A_E
  | .SBC, .reg .H => .sbc_A_H
  | .SBC, .reg .L => .sbc_A_L
  | .SBC, .mHL => .sbc_A_mHL
  | .SBC, .reg .A => .sbc_A_A
  | .AND, .reg .B => .and_B
  | .AND, .reg .C => .and_C
  | .AND, .reg .D => .and_D
  | .AND, .reg .E => .and_E
  | .AND, .reg .H => .and_H
  | .AND, .reg .L => .and_L
  | .AND, .mHL => .and_mHL
  | .AND, .reg .A => .and_A
  | .XOR, .reg .B => .xor_B
  | .XOR, .reg .C => .xor_C
  | .XOR, .reg .D => .xor_D
  | .XOR, .reg .E => .xor_E
  | .XOR, .reg .H => .xor_H
  | .XOR, .reg .L => .xor_L
  | .XOR, .mHL => .xor_mHL
  | .XOR, .reg .A => .xor_A
  | .OR, .reg .B => .or_B
  | .OR, .reg .C => .or_C
  | .OR, .reg .D => .or_D
  | .OR, .reg .E => .or_E
  | .OR, .reg .H => .or_H
  | .OR, .reg .L => .or_L
  | .OR, .mHL => .or_mHL
  | .OR, .reg .A => .or_A
  | .CP, .reg .B => .cp_B
  | .CP, .reg .C => .cp_C
  | .CP, .reg .D => .cp_D
  | .CP, .reg .E => .cp_E
  | .CP, .reg .H => .cp_H
  | .CP, .reg .L => .cp_L
  | .CP, .mHL => .cp_mHL
  | .CP, .reg .A => .cp_A

/-- The accumulator operations on an immediate (R88, R170 to R177). -/
def aluN : AluOp → Byte → Instr
  | .ADD, n => .add_A_n n
  | .ADC, n => .adc_A_n n
  | .SUB, n => .sub_n n
  | .SBC, n => .sbc_A_n n
  | .AND, n => .and_n n
  | .XOR, n => .xor_n n
  | .OR, n => .or_n n
  | .CP, n => .cp_n n

/-- `INC x` of a byte (R85, R178). -/
def incP : Place8 → Instr
  | .reg .B => .inc_B
  | .reg .C => .inc_C
  | .reg .D => .inc_D
  | .reg .E => .inc_E
  | .reg .H => .inc_H
  | .reg .L => .inc_L
  | .mHL => .inc_mHL
  | .reg .A => .inc_A

/-- `DEC x` of a byte (R85, R179). -/
def decP : Place8 → Instr
  | .reg .B => .dec_B
  | .reg .C => .dec_C
  | .reg .D => .dec_D
  | .reg .E => .dec_E
  | .reg .H => .dec_H
  | .reg .L => .dec_L
  | .mHL => .dec_mHL
  | .reg .A => .dec_A

/-- `ADD HL,rr` (R85, R200). -/
def addHL : Pair → Instr
  | .BC => .add_HL_BC
  | .DE => .add_HL_DE
  | .HL => .add_HL_HL
  | .SP => .add_HL_SP

/-- `INC rr` (R85, R201). -/
def incPair : Pair → Instr
  | .BC => .inc_BC
  | .DE => .inc_DE
  | .HL => .inc_HL
  | .SP => .inc_SP

/-- `DEC rr` (R85, R202). -/
def decPair : Pair → Instr
  | .BC => .dec_BC
  | .DE => .dec_DE
  | .HL => .dec_HL
  | .SP => .dec_SP

/-- The eight prefixed rotates and shifts (R89, R214 to R221). -/
def rotP : RotOp → Place8 → Instr
  | .RLC, .reg .B => .rlc_B
  | .RLC, .reg .C => .rlc_C
  | .RLC, .reg .D => .rlc_D
  | .RLC, .reg .E => .rlc_E
  | .RLC, .reg .H => .rlc_H
  | .RLC, .reg .L => .rlc_L
  | .RLC, .mHL => .rlc_mHL
  | .RLC, .reg .A => .rlc_A
  | .RRC, .reg .B => .rrc_B
  | .RRC, .reg .C => .rrc_C
  | .RRC, .reg .D => .rrc_D
  | .RRC, .reg .E => .rrc_E
  | .RRC, .reg .H => .rrc_H
  | .RRC, .reg .L => .rrc_L
  | .RRC, .mHL => .rrc_mHL
  | .RRC, .reg .A => .rrc_A
  | .RL, .reg .B => .rl_B
  | .RL, .reg .C => .rl_C
  | .RL, .reg .D => .rl_D
  | .RL, .reg .E => .rl_E
  | .RL, .reg .H => .rl_H
  | .RL, .reg .L => .rl_L
  | .RL, .mHL => .rl_mHL
  | .RL, .reg .A => .rl_A
  | .RR, .reg .B => .rr_B
  | .RR, .reg .C => .rr_C
  | .RR, .reg .D => .rr_D
  | .RR, .reg .E => .rr_E
  | .RR, .reg .H => .rr_H
  | .RR, .reg .L => .rr_L
  | .RR, .mHL => .rr_mHL
  | .RR, .reg .A => .rr_A
  | .SLA, .reg .B => .sla_B
  | .SLA, .reg .C => .sla_C
  | .SLA, .reg .D => .sla_D
  | .SLA, .reg .E => .sla_E
  | .SLA, .reg .H => .sla_H
  | .SLA, .reg .L => .sla_L
  | .SLA, .mHL => .sla_mHL
  | .SLA, .reg .A => .sla_A
  | .SRA, .reg .B => .sra_B
  | .SRA, .reg .C => .sra_C
  | .SRA, .reg .D => .sra_D
  | .SRA, .reg .E => .sra_E
  | .SRA, .reg .H => .sra_H
  | .SRA, .reg .L => .sra_L
  | .SRA, .mHL => .sra_mHL
  | .SRA, .reg .A => .sra_A
  | .SWAP, .reg .B => .swap_B
  | .SWAP, .reg .C => .swap_C
  | .SWAP, .reg .D => .swap_D
  | .SWAP, .reg .E => .swap_E
  | .SWAP, .reg .H => .swap_H
  | .SWAP, .reg .L => .swap_L
  | .SWAP, .mHL => .swap_mHL
  | .SWAP, .reg .A => .swap_A
  | .SRL, .reg .B => .srl_B
  | .SRL, .reg .C => .srl_C
  | .SRL, .reg .D => .srl_D
  | .SRL, .reg .E => .srl_E
  | .SRL, .reg .H => .srl_H
  | .SRL, .reg .L => .srl_L
  | .SRL, .mHL => .srl_mHL
  | .SRL, .reg .A => .srl_A

/-- `BIT b,x` (R89, R230). -/
def bitP : Fin 8 → Place8 → Instr
  | 0, .reg .B => .bit_0_B
  | 0, .reg .C => .bit_0_C
  | 0, .reg .D => .bit_0_D
  | 0, .reg .E => .bit_0_E
  | 0, .reg .H => .bit_0_H
  | 0, .reg .L => .bit_0_L
  | 0, .mHL => .bit_0_mHL
  | 0, .reg .A => .bit_0_A
  | 1, .reg .B => .bit_1_B
  | 1, .reg .C => .bit_1_C
  | 1, .reg .D => .bit_1_D
  | 1, .reg .E => .bit_1_E
  | 1, .reg .H => .bit_1_H
  | 1, .reg .L => .bit_1_L
  | 1, .mHL => .bit_1_mHL
  | 1, .reg .A => .bit_1_A
  | 2, .reg .B => .bit_2_B
  | 2, .reg .C => .bit_2_C
  | 2, .reg .D => .bit_2_D
  | 2, .reg .E => .bit_2_E
  | 2, .reg .H => .bit_2_H
  | 2, .reg .L => .bit_2_L
  | 2, .mHL => .bit_2_mHL
  | 2, .reg .A => .bit_2_A
  | 3, .reg .B => .bit_3_B
  | 3, .reg .C => .bit_3_C
  | 3, .reg .D => .bit_3_D
  | 3, .reg .E => .bit_3_E
  | 3, .reg .H => .bit_3_H
  | 3, .reg .L => .bit_3_L
  | 3, .mHL => .bit_3_mHL
  | 3, .reg .A => .bit_3_A
  | 4, .reg .B => .bit_4_B
  | 4, .reg .C => .bit_4_C
  | 4, .reg .D => .bit_4_D
  | 4, .reg .E => .bit_4_E
  | 4, .reg .H => .bit_4_H
  | 4, .reg .L => .bit_4_L
  | 4, .mHL => .bit_4_mHL
  | 4, .reg .A => .bit_4_A
  | 5, .reg .B => .bit_5_B
  | 5, .reg .C => .bit_5_C
  | 5, .reg .D => .bit_5_D
  | 5, .reg .E => .bit_5_E
  | 5, .reg .H => .bit_5_H
  | 5, .reg .L => .bit_5_L
  | 5, .mHL => .bit_5_mHL
  | 5, .reg .A => .bit_5_A
  | 6, .reg .B => .bit_6_B
  | 6, .reg .C => .bit_6_C
  | 6, .reg .D => .bit_6_D
  | 6, .reg .E => .bit_6_E
  | 6, .reg .H => .bit_6_H
  | 6, .reg .L => .bit_6_L
  | 6, .mHL => .bit_6_mHL
  | 6, .reg .A => .bit_6_A
  | 7, .reg .B => .bit_7_B
  | 7, .reg .C => .bit_7_C
  | 7, .reg .D => .bit_7_D
  | 7, .reg .E => .bit_7_E
  | 7, .reg .H => .bit_7_H
  | 7, .reg .L => .bit_7_L
  | 7, .mHL => .bit_7_mHL
  | 7, .reg .A => .bit_7_A

/-- `RES b,x` (R89, R231). -/
def resP : Fin 8 → Place8 → Instr
  | 0, .reg .B => .res_0_B
  | 0, .reg .C => .res_0_C
  | 0, .reg .D => .res_0_D
  | 0, .reg .E => .res_0_E
  | 0, .reg .H => .res_0_H
  | 0, .reg .L => .res_0_L
  | 0, .mHL => .res_0_mHL
  | 0, .reg .A => .res_0_A
  | 1, .reg .B => .res_1_B
  | 1, .reg .C => .res_1_C
  | 1, .reg .D => .res_1_D
  | 1, .reg .E => .res_1_E
  | 1, .reg .H => .res_1_H
  | 1, .reg .L => .res_1_L
  | 1, .mHL => .res_1_mHL
  | 1, .reg .A => .res_1_A
  | 2, .reg .B => .res_2_B
  | 2, .reg .C => .res_2_C
  | 2, .reg .D => .res_2_D
  | 2, .reg .E => .res_2_E
  | 2, .reg .H => .res_2_H
  | 2, .reg .L => .res_2_L
  | 2, .mHL => .res_2_mHL
  | 2, .reg .A => .res_2_A
  | 3, .reg .B => .res_3_B
  | 3, .reg .C => .res_3_C
  | 3, .reg .D => .res_3_D
  | 3, .reg .E => .res_3_E
  | 3, .reg .H => .res_3_H
  | 3, .reg .L => .res_3_L
  | 3, .mHL => .res_3_mHL
  | 3, .reg .A => .res_3_A
  | 4, .reg .B => .res_4_B
  | 4, .reg .C => .res_4_C
  | 4, .reg .D => .res_4_D
  | 4, .reg .E => .res_4_E
  | 4, .reg .H => .res_4_H
  | 4, .reg .L => .res_4_L
  | 4, .mHL => .res_4_mHL
  | 4, .reg .A => .res_4_A
  | 5, .reg .B => .res_5_B
  | 5, .reg .C => .res_5_C
  | 5, .reg .D => .res_5_D
  | 5, .reg .E => .res_5_E
  | 5, .reg .H => .res_5_H
  | 5, .reg .L => .res_5_L
  | 5, .mHL => .res_5_mHL
  | 5, .reg .A => .res_5_A
  | 6, .reg .B => .res_6_B
  | 6, .reg .C => .res_6_C
  | 6, .reg .D => .res_6_D
  | 6, .reg .E => .res_6_E
  | 6, .reg .H => .res_6_H
  | 6, .reg .L => .res_6_L
  | 6, .mHL => .res_6_mHL
  | 6, .reg .A => .res_6_A
  | 7, .reg .B => .res_7_B
  | 7, .reg .C => .res_7_C
  | 7, .reg .D => .res_7_D
  | 7, .reg .E => .res_7_E
  | 7, .reg .H => .res_7_H
  | 7, .reg .L => .res_7_L
  | 7, .mHL => .res_7_mHL
  | 7, .reg .A => .res_7_A

/-- `SET b,x` (R89, R232). -/
def setP : Fin 8 → Place8 → Instr
  | 0, .reg .B => .set_0_B
  | 0, .reg .C => .set_0_C
  | 0, .reg .D => .set_0_D
  | 0, .reg .E => .set_0_E
  | 0, .reg .H => .set_0_H
  | 0, .reg .L => .set_0_L
  | 0, .mHL => .set_0_mHL
  | 0, .reg .A => .set_0_A
  | 1, .reg .B => .set_1_B
  | 1, .reg .C => .set_1_C
  | 1, .reg .D => .set_1_D
  | 1, .reg .E => .set_1_E
  | 1, .reg .H => .set_1_H
  | 1, .reg .L => .set_1_L
  | 1, .mHL => .set_1_mHL
  | 1, .reg .A => .set_1_A
  | 2, .reg .B => .set_2_B
  | 2, .reg .C => .set_2_C
  | 2, .reg .D => .set_2_D
  | 2, .reg .E => .set_2_E
  | 2, .reg .H => .set_2_H
  | 2, .reg .L => .set_2_L
  | 2, .mHL => .set_2_mHL
  | 2, .reg .A => .set_2_A
  | 3, .reg .B => .set_3_B
  | 3, .reg .C => .set_3_C
  | 3, .reg .D => .set_3_D
  | 3, .reg .E => .set_3_E
  | 3, .reg .H => .set_3_H
  | 3, .reg .L => .set_3_L
  | 3, .mHL => .set_3_mHL
  | 3, .reg .A => .set_3_A
  | 4, .reg .B => .set_4_B
  | 4, .reg .C => .set_4_C
  | 4, .reg .D => .set_4_D
  | 4, .reg .E => .set_4_E
  | 4, .reg .H => .set_4_H
  | 4, .reg .L => .set_4_L
  | 4, .mHL => .set_4_mHL
  | 4, .reg .A => .set_4_A
  | 5, .reg .B => .set_5_B
  | 5, .reg .C => .set_5_C
  | 5, .reg .D => .set_5_D
  | 5, .reg .E => .set_5_E
  | 5, .reg .H => .set_5_H
  | 5, .reg .L => .set_5_L
  | 5, .mHL => .set_5_mHL
  | 5, .reg .A => .set_5_A
  | 6, .reg .B => .set_6_B
  | 6, .reg .C => .set_6_C
  | 6, .reg .D => .set_6_D
  | 6, .reg .E => .set_6_E
  | 6, .reg .H => .set_6_H
  | 6, .reg .L => .set_6_L
  | 6, .mHL => .set_6_mHL
  | 6, .reg .A => .set_6_A
  | 7, .reg .B => .set_7_B
  | 7, .reg .C => .set_7_C
  | 7, .reg .D => .set_7_D
  | 7, .reg .E => .set_7_E
  | 7, .reg .H => .set_7_H
  | 7, .reg .L => .set_7_L
  | 7, .mHL => .set_7_mHL
  | 7, .reg .A => .set_7_A

/-- `JP cc,nn` (R88, R241). -/
def jpCC : Cond → Word → Instr
  | .NZ, nn => .jp_NZ_nn nn
  | .Z, nn => .jp_Z_nn nn
  | .NC, nn => .jp_NC_nn nn
  | .C, nn => .jp_C_nn nn

/-- `CALL cc,nn` (R88, R246). -/
def callCC : Cond → Word → Instr
  | .NZ, nn => .call_NZ_nn nn
  | .Z, nn => .call_Z_nn nn
  | .NC, nn => .call_NC_nn nn
  | .C, nn => .call_C_nn nn

/-- `JR cc,e` (R85, R244). -/
def jrCC : Cond → Byte → Instr
  | .NZ, e => .jr_NZ_e e
  | .Z, e => .jr_Z_e e
  | .NC, e => .jr_NC_e e
  | .C, e => .jr_C_e e

/-- `RET cc` (R88, R251). -/
def retCC : Cond → Instr
  | .NZ => .ret_NZ
  | .Z => .ret_Z
  | .NC => .ret_NC
  | .C => .ret_C

/-- `RST t` (R88, R253). -/
def rstT : Fin 8 → Instr
  | 0 => .rst_00
  | 1 => .rst_08
  | 2 => .rst_10
  | 3 => .rst_18
  | 4 => .rst_20
  | 5 => .rst_28
  | 6 => .rst_30
  | 7 => .rst_38

/-- The row of an undefined byte (R90). -/
def undefinedOp : UndefinedOp → Instr
  | .xD3 => .illegal_D3
  | .xDB => .illegal_DB
  | .xDD => .illegal_DD
  | .xE3 => .illegal_E3
  | .xE4 => .illegal_E4
  | .xEB => .illegal_EB
  | .xEC => .illegal_EC
  | .xED => .illegal_ED
  | .xF4 => .illegal_F4
  | .xFC => .illegal_FC
  | .xFD => .illegal_FD

/-! ## Field codes (R72 to R74) -/

/-- The operand of code `r` (R72). -/
def placeOfCode : Nat → Place8
  | 0 => .reg .B
  | 1 => .reg .C
  | 2 => .reg .D
  | 3 => .reg .E
  | 4 => .reg .H
  | 5 => .reg .L
  | 6 => .mHL
  | _ => .reg .A

/-- The pair of code `p` in table `rp` (R73). -/
def pairOfCode : Nat → Pair
  | 0 => .BC
  | 1 => .DE
  | 2 => .HL
  | _ => .SP

/-- The pair of code `p` in table `rp2` (R73). -/
def stackPairOfCode : Nat → StackPair
  | 0 => .BC
  | 1 => .DE
  | 2 => .HL
  | _ => .AF

/-- The condition of code `cc` (R74). -/
def condOfCode : Nat → Cond
  | 0 => .NZ
  | 1 => .Z
  | 2 => .NC
  | _ => .C

/-- The operation of selector `alu` (R74). -/
def aluOfCode : Nat → AluOp
  | 0 => .ADD
  | 1 => .ADC
  | 2 => .SUB
  | 3 => .SBC
  | 4 => .AND
  | 5 => .XOR
  | 6 => .OR
  | _ => .CP

/-- The operation of selector `rot` (R74). -/
def rotOfCode : Nat → RotOp
  | 0 => .RLC
  | 1 => .RRC
  | 2 => .RL
  | 3 => .RR
  | 4 => .SLA
  | 5 => .SRA
  | 6 => .SWAP
  | _ => .SRL

/-- The code of a register (R72). -/
def regCode : Reg8 → Nat
  | .B => 0
  | .C => 1
  | .D => 2
  | .E => 3
  | .H => 4
  | .L => 5
  | .A => 7

/-- The code of an `r` field's operand (R72). -/
def placeCode : Place8 → Nat
  | .reg r => regCode r
  | .mHL => 6

/-- The code of a pair in table `rp` (R73). -/
def pairCode : Pair → Nat
  | .BC => 0
  | .DE => 1
  | .HL => 2
  | .SP => 3

/-- The code of a pair in table `rp2` (R73). -/
def stackPairCode : StackPair → Nat
  | .BC => 0
  | .DE => 1
  | .HL => 2
  | .AF => 3

/-- The code of a condition (R74, R83). -/
def condCode : Cond → Nat
  | .NZ => 0
  | .Z => 1
  | .NC => 2
  | .C => 3

/-- The code of an accumulator operation (R74). -/
def aluCode : AluOp → Nat
  | .ADD => 0
  | .ADC => 1
  | .SUB => 2
  | .SBC => 3
  | .AND => 4
  | .XOR => 5
  | .OR => 6
  | .CP => 7

/-- The code of a rotate or shift (R74). -/
def rotCode : RotOp → Nat
  | .RLC => 0
  | .RRC => 1
  | .RL => 2
  | .RR => 3
  | .SLA => 4
  | .SRA => 5
  | .SWAP => 6
  | .SRL => 7

/-- The byte of an undefined row (R90). -/
def undefinedOpByte : UndefinedOp → Byte
  | .xD3 => 0xD3
  | .xDB => 0xDB
  | .xDD => 0xDD
  | .xE3 => 0xE3
  | .xE4 => 0xE4
  | .xEB => 0xEB
  | .xEC => 0xEC
  | .xED => 0xED
  | .xF4 => 0xF4
  | .xFC => 0xFC
  | .xFD => 0xFD

/-- A bit index or restart index carried in `y` (R74). -/
def index8 (y : Nat) : Fin 8 := Fin.ofNat 8 y

/-- Field `x`, bits 7..6 (R71). -/
def opX (b : Byte) : Nat := b.toNat / 64
/-- Field `y`, bits 5..3 (R71). -/
def opY (b : Byte) : Nat := b.toNat / 8 % 8
/-- Field `z`, bits 2..0 (R71). -/
def opZ (b : Byte) : Nat := b.toNat % 8

/-! ## The opcode map -/

/-- Block `x = 0` (R85). `n` is the byte after the opcode, `nn` the word. -/
def decodeBlock0 (y z : Nat) (n : Byte) (nn : Word) : Instr :=
  match z with
  | 0 =>
    match y with
    | 0 => .nop
    | 1 => .ld_mnn_SP nn
    | 2 => .stop n
    | 3 => .jr_e n
    | _ => jrCC (condOfCode (y - 4)) n
  | 1 => if y % 2 = 0 then ldPairNN (pairOfCode (y / 2)) nn else addHL (pairOfCode (y / 2))
  | 2 =>
    match y with
    | 0 => .ld_mBC_A
    | 1 => .ld_A_mBC
    | 2 => .ld_mDE_A
    | 3 => .ld_A_mDE
    | 4 => .ld_mHLi_A
    | 5 => .ld_A_mHLi
    | 6 => .ld_mHLd_A
    | _ => .ld_A_mHLd
  | 3 => if y % 2 = 0 then incPair (pairOfCode (y / 2)) else decPair (pairOfCode (y / 2))
  | 4 => incP (placeOfCode y)
  | 5 => decP (placeOfCode y)
  | 6 =>
    match placeOfCode y with
    | .reg r => ldRN r n
    | .mHL => .ld_mHL_n n
  | _ =>
    match y with
    | 0 => .rlca
    | 1 => .rrca
    | 2 => .rla
    | 3 => .rra
    | 4 => .daa
    | 5 => .cpl
    | 6 => .scf
    | _ => .ccf

/-- Block `x = 1` (R86). -/
def decodeBlock1 (y z : Nat) : Instr :=
  match placeOfCode y, placeOfCode z with
  | .reg d, .reg r => ldRR d r
  | .reg d, .mHL => ldRM d
  | .mHL, .reg r => ldMR r
  | .mHL, .mHL => .halt

/-- Block `x = 3` (R88). The prefix byte itself is not decoded here. -/
def decodeBlock3 (y z : Nat) (n : Byte) (nn : Word) : Instr :=
  match z with
  | 0 =>
    match y with
    | 4 => .ldh_mn_A n
    | 5 => .add_SP_e n
    | 6 => .ldh_A_mn n
    | 7 => .ld_HL_SPe n
    | _ => retCC (condOfCode y)
  | 1 =>
    match y with
    | 1 => .ret
    | 3 => .reti
    | 5 => .jp_HL
    | 7 => .ld_SP_HL
    | _ => popP (stackPairOfCode (y / 2))
  | 2 =>
    match y with
    | 4 => .ld_mC_A
    | 5 => .ld_mnn_A nn
    | 6 => .ld_A_mC
    | 7 => .ld_A_mnn nn
    | _ => jpCC (condOfCode y) nn
  | 3 =>
    match y with
    | 0 => .jp_nn nn
    | 2 => undefinedOp .xD3
    | 3 => undefinedOp .xDB
    | 4 => undefinedOp .xE3
    | 5 => undefinedOp .xEB
    | 6 => .di
    | _ => .ei
  | 4 =>
    match y with
    | 4 => undefinedOp .xE4
    | 5 => undefinedOp .xEC
    | 6 => undefinedOp .xF4
    | 7 => undefinedOp .xFC
    | _ => callCC (condOfCode y) nn
  | 5 =>
    match y with
    | 1 => .call_nn nn
    | 3 => undefinedOp .xDD
    | 5 => undefinedOp .xED
    | 7 => undefinedOp .xFD
    | _ => pushP (stackPairOfCode (y / 2))
  | 6 => aluN (aluOfCode y) n
  | _ => rstT (index8 y)

/-- The prefixed space (R89). -/
def decodePrefixed (op2 : Byte) : Instr :=
  match opX op2 with
  | 0 => rotP (rotOfCode (opY op2)) (placeOfCode (opZ op2))
  | 1 => bitP (index8 (opY op2)) (placeOfCode (opZ op2))
  | 2 => resP (index8 (opY op2)) (placeOfCode (opZ op2))
  | _ => setP (index8 (opY op2)) (placeOfCode (opZ op2))

/-- The instruction that starts with three bytes (R84): total, since each of the 256 bytes is the prefix, has an
entry, or is one of the eleven undefined bytes, which have rows of their own. Bytes past the instruction's
length do not matter. -/
def decode3 (b0 b1 b2 : Byte) : Instr :=
  if b0 = Config.prefixByte then decodePrefixed b1
  else
    match opX b0 with
    | 0 => decodeBlock0 (opY b0) (opZ b0) b1 (joinBytes b2 b1)
    | 1 => decodeBlock1 (opY b0) (opZ b0)
    | 2 => aluP (aluOfCode (opY b0)) (placeOfCode (opZ b0))
    | _ => decodeBlock3 (opY b0) (opZ b0) b1 (joinBytes b2 b1)

/-! ## Formats and lengths (R71) -/

/-- The formats of R71, and `ILLEGAL` for an undefined byte. -/
inductive Format where
  | OP | OP_N | OP_E | OP_NN | CB_OP | ILLEGAL
deriving DecidableEq, Repr

/-- Bytes of an instruction of the format. An undefined byte stands alone (opcode_table.json: length 1). -/
def Format.length : Format → Nat
  | .OP => 1
  | .OP_N => 2
  | .OP_E => 2
  | .OP_NN => 3
  | .CB_OP => 2
  | .ILLEGAL => 1

/-- The undefined bytes (R90). -/
def undefinedBytes : List Byte := [0xD3, 0xDB, 0xDD, 0xE3, 0xE4, 0xEB, 0xEC, 0xED, 0xF4, 0xFC, 0xFD]

/-- The opcodes of three bytes (R71). -/
def threeByteOpcodes : List Byte :=
  [0x01, 0x08, 0x11, 0x21, 0x31, 0xC2, 0xC3, 0xC4, 0xCA, 0xCC, 0xCD, 0xD2, 0xD4, 0xDA, 0xDC, 0xEA, 0xFA]

/-- The opcodes of format `OP_E` (R85, R88): `JR e`, `JR cc,e`, `ADD SP,e`, `LD HL,SP+e`. -/
def offsetOpcodes : List Byte := [0x18, 0x20, 0x28, 0x30, 0x38, 0xE8, 0xF8]

/-- The opcodes of format `OP_N` (R71 less those of format `OP_E` and the prefix). -/
def imm8Opcodes : List Byte :=
  [0x06, 0x0E, 0x10, 0x16, 0x1E, 0x26, 0x2E, 0x36, 0x3E, 0xC6, 0xCE, 0xD6, 0xDE, 0xE0, 0xE6, 0xEE, 0xF0, 0xF6,
    0xFE]

/-- The opcode byte alone selects the format (R71). -/
def formatOf (op : Byte) : Format :=
  if op = Config.prefixByte then .CB_OP
  else if op ∈ undefinedBytes then .ILLEGAL
  else if op ∈ threeByteOpcodes then .OP_NN
  else if op ∈ offsetOpcodes then .OP_E
  else if op ∈ imm8Opcodes then .OP_N
  else .OP

/-! ## Decoding a byte list -/

/-- Why a list of bytes gives no instruction. -/
inductive DecodeError where
  /-- There is no byte. -/
  | noBytes
  /-- The opcode byte asks for more bytes than the list holds. -/
  | truncated (needed : Nat)
  /-- The opcode byte has no table entry: the source's "unimplemented" (R90). -/
  | unimplemented (op : Byte)
deriving DecidableEq, Repr

/-- The row of opcode_table.json that a byte list starts with, and the bytes after it. -/
def decode : List Byte → Except DecodeError (Instr × List Byte)
  | [] => .error .noBytes
  | b0 :: rest =>
    if rest.length + 1 < (formatOf b0).length then .error (.truncated (formatOf b0).length)
    else .ok (decode3 b0 (rest.getD 0 0) (rest.getD 1 0), rest.drop ((formatOf b0).length - 1))

/-- `decode(byte) -> opcode_entry?` (R84): as `decode`, failing by name on an undefined byte (R90). -/
def decodeEntry (bs : List Byte) : Except DecodeError (Instr × List Byte) :=
  match bs with
  | [] => .error .noBytes
  | b0 :: rest => if b0 ∈ undefinedBytes then .error (.unimplemented b0) else decode (b0 :: rest)

/-- The first byte and the two after it, zero where the list is shorter. -/
def threeBytes (bs : List Byte) : Byte × Byte × Byte := (bs.getD 0 0, bs.getD 1 0, bs.getD 2 0)

/-- The three bytes, in the order of their addresses, of an instruction whose bits opcode_table.json numbers as
`w`. A prefixed row has mask `0xFFFF` and its first byte, the prefix, in the more significant position (INDEX.md,
"Reading opcode_table.json"); every other row has its first byte in bits 7..0 and the operand bytes above it, low
byte first (R76) (log 26). -/
def layTableWord (nbits w : Nat) : List Byte :=
  if nbits = 16 ∧ BitVec.ofNat 8 (w / 256) = Config.prefixByte then [Config.prefixByte, BitVec.ofNat 8 w, 0]
  else
    let v := w % 2 ^ nbits
    [BitVec.ofNat 8 v, BitVec.ofNat 8 (v / 256), BitVec.ofNat 8 (v / 65536)]

/-- What the decoder reads from the instruction whose bits are `w` as the table numbers them. -/
def decodeTableWord (nbits w : Nat) : Option Instr :=
  match decode (layTableWord nbits w) with
  | .ok (i, _) => some i
  | .error _ => none

/-! ## The encoder -/

/-- The bytes of an instruction, in the order of their addresses (opcode_table.json; R71, R75 to R77). -/
def encode : Instr → List Byte
  | .ld_B_B => [0x40]
  | .ld_B_C => [0x41]
  | .ld_B_D => [0x42]
  | .ld_B_E => [0x43]
  | .ld_B_H => [0x44]
  | .ld_B_L => [0x45]
  | .ld_B_A => [0x47]
  | .ld_C_B => [0x48]
  | .ld_C_C => [0x49]
  | .ld_C_D => [0x4A]
  | .ld_C_E => [0x4B]
  | .ld_C_H => [0x4C]
  | .ld_C_L => [0x4D]
  | .ld_C_A => [0x4F]
  | .ld_D_B => [0x50]
  | .ld_D_C => [0x51]
  | .ld_D_D => [0x52]
  | .ld_D_E => [0x53]
  | .ld_D_H => [0x54]
  | .ld_D_L => [0x55]
  | .ld_D_A => [0x57]
  | .ld_E_B => [0x58]
  | .ld_E_C => [0x59]
  | .ld_E_D => [0x5A]
  | .ld_E_E => [0x5B]
  | .ld_E_H => [0x5C]
  | .ld_E_L => [0x5D]
  | .ld_E_A => [0x5F]
  | .ld_H_B => [0x60]
  | .ld_H_C => [0x61]
  | .ld_H_D => [0x62]
  | .ld_H_E => [0x63]
  | .ld_H_H => [0x64]
  | .ld_H_L => [0x65]
  | .ld_H_A => [0x67]
  | .ld_L_B => [0x68]
  | .ld_L_C => [0x69]
  | .ld_L_D => [0x6A]
  | .ld_L_E => [0x6B]
  | .ld_L_H => [0x6C]
  | .ld_L_L => [0x6D]
  | .ld_L_A => [0x6F]
  | .ld_A_B => [0x78]
  | .ld_A_C => [0x79]
  | .ld_A_D => [0x7A]
  | .ld_A_E => [0x7B]
  | .ld_A_H => [0x7C]
  | .ld_A_L => [0x7D]
  | .ld_A_A => [0x7F]
  | .ld_B_n n => [0x06, n]
  | .ld_C_n n => [0x0E, n]
  | .ld_D_n n => [0x16, n]
  | .ld_E_n n => [0x1E, n]
  | .ld_H_n n => [0x26, n]
  | .ld_L_n n => [0x2E, n]
  | .ld_A_n n => [0x3E, n]
  | .ld_B_mHL => [0x46]
  | .ld_C_mHL => [0x4E]
  | .ld_D_mHL => [0x56]
  | .ld_E_mHL => [0x5E]
  | .ld_H_mHL => [0x66]
  | .ld_L_mHL => [0x6E]
  | .ld_A_mHL => [0x7E]
  | .ld_mHL_B => [0x70]
  | .ld_mHL_C => [0x71]
  | .ld_mHL_D => [0x72]
  | .ld_mHL_E => [0x73]
  | .ld_mHL_H => [0x74]
  | .ld_mHL_L => [0x75]
  | .ld_mHL_A => [0x77]
  | .ld_mHL_n n => [0x36, n]
  | .ld_A_mBC => [0x0A]
  | .ld_A_mDE => [0x1A]
  | .ld_mBC_A => [0x02]
  | .ld_mDE_A => [0x12]
  | .ld_A_mnn nn => [0xFA, loByte nn, hiByte nn]
  | .ld_mnn_A nn => [0xEA, loByte nn, hiByte nn]
  | .ldh_A_mn n => [0xF0, n]
  | .ldh_mn_A n => [0xE0, n]
  | .ld_A_mC => [0xF2]
  | .ld_mC_A => [0xE2]
  | .ld_mHLi_A => [0x22]
  | .ld_A_mHLi => [0x2A]
  | .ld_mHLd_A => [0x32]
  | .ld_A_mHLd => [0x3A]
  | .ld_BC_nn nn => [0x01, loByte nn, hiByte nn]
  | .ld_DE_nn nn => [0x11, loByte nn, hiByte nn]
  | .ld_HL_nn nn => [0x21, loByte nn, hiByte nn]
  | .ld_SP_nn nn => [0x31, loByte nn, hiByte nn]
  | .ld_mnn_SP nn => [0x08, loByte nn, hiByte nn]
  | .ld_SP_HL => [0xF9]
  | .ld_HL_SPe e => [0xF8, e]
  | .push_BC => [0xC5]
  | .push_DE => [0xD5]
  | .push_HL => [0xE5]
  | .push_AF => [0xF5]
  | .pop_BC => [0xC1]
  | .pop_DE => [0xD1]
  | .pop_HL => [0xE1]
  | .pop_AF => [0xF1]
  | .add_A_B => [0x80]
  | .add_A_C => [0x81]
  | .add_A_D => [0x82]
  | .add_A_E => [0x83]
  | .add_A_H => [0x84]
  | .add_A_L => [0x85]
  | .add_A_mHL => [0x86]
  | .add_A_A => [0x87]
  | .add_A_n n => [0xC6, n]
  | .adc_A_B => [0x88]
  | .adc_A_C => [0x89]
  | .adc_A_D => [0x8A]
  | .adc_A_E => [0x8B]
  | .adc_A_H => [0x8C]
  | .adc_A_L => [0x8D]
  | .adc_A_mHL => [0x8E]
  | .adc_A_A => [0x8F]
  | .adc_A_n n => [0xCE, n]
  | .sub_B => [0x90]
  | .sub_C => [0x91]
  | .sub_D => [0x92]
  | .sub_E => [0x93]
  | .sub_H => [0x94]
  | .sub_L => [0x95]
  | .sub_mHL => [0x96]
  | .sub_A => [0x97]
  | .sub_n n => [0xD6, n]
  | .sbc_A_B => [0x98]
  | .sbc_A_C => [0x99]
  | .sbc_A_D => [0x9A]
  | .sbc_A_E => [0x9B]
  | .sbc_A_H => [0x9C]
  | .sbc_A_L => [0x9D]
  | .sbc_A_mHL => [0x9E]
  | .sbc_A_A => [0x9F]
  | .sbc_A_n n => [0xDE, n]
  | .and_B => [0xA0]
  | .and_C => [0xA1]
  | .and_D => [0xA2]
  | .and_E => [0xA3]
  | .and_H => [0xA4]
  | .and_L => [0xA5]
  | .and_mHL => [0xA6]
  | .and_A => [0xA7]
  | .and_n n => [0xE6, n]
  | .xor_B => [0xA8]
  | .xor_C => [0xA9]
  | .xor_D => [0xAA]
  | .xor_E => [0xAB]
  | .xor_H => [0xAC]
  | .xor_L => [0xAD]
  | .xor_mHL => [0xAE]
  | .xor_A => [0xAF]
  | .xor_n n => [0xEE, n]
  | .or_B => [0xB0]
  | .or_C => [0xB1]
  | .or_D => [0xB2]
  | .or_E => [0xB3]
  | .or_H => [0xB4]
  | .or_L => [0xB5]
  | .or_mHL => [0xB6]
  | .or_A => [0xB7]
  | .or_n n => [0xF6, n]
  | .cp_B => [0xB8]
  | .cp_C => [0xB9]
  | .cp_D => [0xBA]
  | .cp_E => [0xBB]
  | .cp_H => [0xBC]
  | .cp_L => [0xBD]
  | .cp_mHL => [0xBE]
  | .cp_A => [0xBF]
  | .cp_n n => [0xFE, n]
  | .inc_B => [0x04]
  | .inc_C => [0x0C]
  | .inc_D => [0x14]
  | .inc_E => [0x1C]
  | .inc_H => [0x24]
  | .inc_L => [0x2C]
  | .inc_mHL => [0x34]
  | .inc_A => [0x3C]
  | .dec_B => [0x05]
  | .dec_C => [0x0D]
  | .dec_D => [0x15]
  | .dec_E => [0x1D]
  | .dec_H => [0x25]
  | .dec_L => [0x2D]
  | .dec_mHL => [0x35]
  | .dec_A => [0x3D]
  | .daa => [0x27]
  | .cpl => [0x2F]
  | .scf => [0x37]
  | .ccf => [0x3F]
  | .add_HL_BC => [0x09]
  | .add_HL_DE => [0x19]
  | .add_HL_HL => [0x29]
  | .add_HL_SP => [0x39]
  | .inc_BC => [0x03]
  | .inc_DE => [0x13]
  | .inc_HL => [0x23]
  | .inc_SP => [0x33]
  | .dec_BC => [0x0B]
  | .dec_DE => [0x1B]
  | .dec_HL => [0x2B]
  | .dec_SP => [0x3B]
  | .add_SP_e e => [0xE8, e]
  | .rlca => [0x07]
  | .rrca => [0x0F]
  | .rla => [0x17]
  | .rra => [0x1F]
  | .rlc_B => [0xCB, 0x00]
  | .rlc_C => [0xCB, 0x01]
  | .rlc_D => [0xCB, 0x02]
  | .rlc_E => [0xCB, 0x03]
  | .rlc_H => [0xCB, 0x04]
  | .rlc_L => [0xCB, 0x05]
  | .rlc_mHL => [0xCB, 0x06]
  | .rlc_A => [0xCB, 0x07]
  | .rrc_B => [0xCB, 0x08]
  | .rrc_C => [0xCB, 0x09]
  | .rrc_D => [0xCB, 0x0A]
  | .rrc_E => [0xCB, 0x0B]
  | .rrc_H => [0xCB, 0x0C]
  | .rrc_L => [0xCB, 0x0D]
  | .rrc_mHL => [0xCB, 0x0E]
  | .rrc_A => [0xCB, 0x0F]
  | .rl_B => [0xCB, 0x10]
  | .rl_C => [0xCB, 0x11]
  | .rl_D => [0xCB, 0x12]
  | .rl_E => [0xCB, 0x13]
  | .rl_H => [0xCB, 0x14]
  | .rl_L => [0xCB, 0x15]
  | .rl_mHL => [0xCB, 0x16]
  | .rl_A => [0xCB, 0x17]
  | .rr_B => [0xCB, 0x18]
  | .rr_C => [0xCB, 0x19]
  | .rr_D => [0xCB, 0x1A]
  | .rr_E => [0xCB, 0x1B]
  | .rr_H => [0xCB, 0x1C]
  | .rr_L => [0xCB, 0x1D]
  | .rr_mHL => [0xCB, 0x1E]
  | .rr_A => [0xCB, 0x1F]
  | .sla_B => [0xCB, 0x20]
  | .sla_C => [0xCB, 0x21]
  | .sla_D => [0xCB, 0x22]
  | .sla_E => [0xCB, 0x23]
  | .sla_H => [0xCB, 0x24]
  | .sla_L => [0xCB, 0x25]
  | .sla_mHL => [0xCB, 0x26]
  | .sla_A => [0xCB, 0x27]
  | .sra_B => [0xCB, 0x28]
  | .sra_C => [0xCB, 0x29]
  | .sra_D => [0xCB, 0x2A]
  | .sra_E => [0xCB, 0x2B]
  | .sra_H => [0xCB, 0x2C]
  | .sra_L => [0xCB, 0x2D]
  | .sra_mHL => [0xCB, 0x2E]
  | .sra_A => [0xCB, 0x2F]
  | .swap_B => [0xCB, 0x30]
  | .swap_C => [0xCB, 0x31]
  | .swap_D => [0xCB, 0x32]
  | .swap_E => [0xCB, 0x33]
  | .swap_H => [0xCB, 0x34]
  | .swap_L => [0xCB, 0x35]
  | .swap_mHL => [0xCB, 0x36]
  | .swap_A => [0xCB, 0x37]
  | .srl_B => [0xCB, 0x38]
  | .srl_C => [0xCB, 0x39]
  | .srl_D => [0xCB, 0x3A]
  | .srl_E => [0xCB, 0x3B]
  | .srl_H => [0xCB, 0x3C]
  | .srl_L => [0xCB, 0x3D]
  | .srl_mHL => [0xCB, 0x3E]
  | .srl_A => [0xCB, 0x3F]
  | .bit_0_B => [0xCB, 0x40]
  | .bit_0_C => [0xCB, 0x41]
  | .bit_0_D => [0xCB, 0x42]
  | .bit_0_E => [0xCB, 0x43]
  | .bit_0_H => [0xCB, 0x44]
  | .bit_0_L => [0xCB, 0x45]
  | .bit_0_mHL => [0xCB, 0x46]
  | .bit_0_A => [0xCB, 0x47]
  | .bit_1_B => [0xCB, 0x48]
  | .bit_1_C => [0xCB, 0x49]
  | .bit_1_D => [0xCB, 0x4A]
  | .bit_1_E => [0xCB, 0x4B]
  | .bit_1_H => [0xCB, 0x4C]
  | .bit_1_L => [0xCB, 0x4D]
  | .bit_1_mHL => [0xCB, 0x4E]
  | .bit_1_A => [0xCB, 0x4F]
  | .bit_2_B => [0xCB, 0x50]
  | .bit_2_C => [0xCB, 0x51]
  | .bit_2_D => [0xCB, 0x52]
  | .bit_2_E => [0xCB, 0x53]
  | .bit_2_H => [0xCB, 0x54]
  | .bit_2_L => [0xCB, 0x55]
  | .bit_2_mHL => [0xCB, 0x56]
  | .bit_2_A => [0xCB, 0x57]
  | .bit_3_B => [0xCB, 0x58]
  | .bit_3_C => [0xCB, 0x59]
  | .bit_3_D => [0xCB, 0x5A]
  | .bit_3_E => [0xCB, 0x5B]
  | .bit_3_H => [0xCB, 0x5C]
  | .bit_3_L => [0xCB, 0x5D]
  | .bit_3_mHL => [0xCB, 0x5E]
  | .bit_3_A => [0xCB, 0x5F]
  | .bit_4_B => [0xCB, 0x60]
  | .bit_4_C => [0xCB, 0x61]
  | .bit_4_D => [0xCB, 0x62]
  | .bit_4_E => [0xCB, 0x63]
  | .bit_4_H => [0xCB, 0x64]
  | .bit_4_L => [0xCB, 0x65]
  | .bit_4_mHL => [0xCB, 0x66]
  | .bit_4_A => [0xCB, 0x67]
  | .bit_5_B => [0xCB, 0x68]
  | .bit_5_C => [0xCB, 0x69]
  | .bit_5_D => [0xCB, 0x6A]
  | .bit_5_E => [0xCB, 0x6B]
  | .bit_5_H => [0xCB, 0x6C]
  | .bit_5_L => [0xCB, 0x6D]
  | .bit_5_mHL => [0xCB, 0x6E]
  | .bit_5_A => [0xCB, 0x6F]
  | .bit_6_B => [0xCB, 0x70]
  | .bit_6_C => [0xCB, 0x71]
  | .bit_6_D => [0xCB, 0x72]
  | .bit_6_E => [0xCB, 0x73]
  | .bit_6_H => [0xCB, 0x74]
  | .bit_6_L => [0xCB, 0x75]
  | .bit_6_mHL => [0xCB, 0x76]
  | .bit_6_A => [0xCB, 0x77]
  | .bit_7_B => [0xCB, 0x78]
  | .bit_7_C => [0xCB, 0x79]
  | .bit_7_D => [0xCB, 0x7A]
  | .bit_7_E => [0xCB, 0x7B]
  | .bit_7_H => [0xCB, 0x7C]
  | .bit_7_L => [0xCB, 0x7D]
  | .bit_7_mHL => [0xCB, 0x7E]
  | .bit_7_A => [0xCB, 0x7F]
  | .res_0_B => [0xCB, 0x80]
  | .res_0_C => [0xCB, 0x81]
  | .res_0_D => [0xCB, 0x82]
  | .res_0_E => [0xCB, 0x83]
  | .res_0_H => [0xCB, 0x84]
  | .res_0_L => [0xCB, 0x85]
  | .res_0_mHL => [0xCB, 0x86]
  | .res_0_A => [0xCB, 0x87]
  | .res_1_B => [0xCB, 0x88]
  | .res_1_C => [0xCB, 0x89]
  | .res_1_D => [0xCB, 0x8A]
  | .res_1_E => [0xCB, 0x8B]
  | .res_1_H => [0xCB, 0x8C]
  | .res_1_L => [0xCB, 0x8D]
  | .res_1_mHL => [0xCB, 0x8E]
  | .res_1_A => [0xCB, 0x8F]
  | .res_2_B => [0xCB, 0x90]
  | .res_2_C => [0xCB, 0x91]
  | .res_2_D => [0xCB, 0x92]
  | .res_2_E => [0xCB, 0x93]
  | .res_2_H => [0xCB, 0x94]
  | .res_2_L => [0xCB, 0x95]
  | .res_2_mHL => [0xCB, 0x96]
  | .res_2_A => [0xCB, 0x97]
  | .res_3_B => [0xCB, 0x98]
  | .res_3_C => [0xCB, 0x99]
  | .res_3_D => [0xCB, 0x9A]
  | .res_3_E => [0xCB, 0x9B]
  | .res_3_H => [0xCB, 0x9C]
  | .res_3_L => [0xCB, 0x9D]
  | .res_3_mHL => [0xCB, 0x9E]
  | .res_3_A => [0xCB, 0x9F]
  | .res_4_B => [0xCB, 0xA0]
  | .res_4_C => [0xCB, 0xA1]
  | .res_4_D => [0xCB, 0xA2]
  | .res_4_E => [0xCB, 0xA3]
  | .res_4_H => [0xCB, 0xA4]
  | .res_4_L => [0xCB, 0xA5]
  | .res_4_mHL => [0xCB, 0xA6]
  | .res_4_A => [0xCB, 0xA7]
  | .res_5_B => [0xCB, 0xA8]
  | .res_5_C => [0xCB, 0xA9]
  | .res_5_D => [0xCB, 0xAA]
  | .res_5_E => [0xCB, 0xAB]
  | .res_5_H => [0xCB, 0xAC]
  | .res_5_L => [0xCB, 0xAD]
  | .res_5_mHL => [0xCB, 0xAE]
  | .res_5_A => [0xCB, 0xAF]
  | .res_6_B => [0xCB, 0xB0]
  | .res_6_C => [0xCB, 0xB1]
  | .res_6_D => [0xCB, 0xB2]
  | .res_6_E => [0xCB, 0xB3]
  | .res_6_H => [0xCB, 0xB4]
  | .res_6_L => [0xCB, 0xB5]
  | .res_6_mHL => [0xCB, 0xB6]
  | .res_6_A => [0xCB, 0xB7]
  | .res_7_B => [0xCB, 0xB8]
  | .res_7_C => [0xCB, 0xB9]
  | .res_7_D => [0xCB, 0xBA]
  | .res_7_E => [0xCB, 0xBB]
  | .res_7_H => [0xCB, 0xBC]
  | .res_7_L => [0xCB, 0xBD]
  | .res_7_mHL => [0xCB, 0xBE]
  | .res_7_A => [0xCB, 0xBF]
  | .set_0_B => [0xCB, 0xC0]
  | .set_0_C => [0xCB, 0xC1]
  | .set_0_D => [0xCB, 0xC2]
  | .set_0_E => [0xCB, 0xC3]
  | .set_0_H => [0xCB, 0xC4]
  | .set_0_L => [0xCB, 0xC5]
  | .set_0_mHL => [0xCB, 0xC6]
  | .set_0_A => [0xCB, 0xC7]
  | .set_1_B => [0xCB, 0xC8]
  | .set_1_C => [0xCB, 0xC9]
  | .set_1_D => [0xCB, 0xCA]
  | .set_1_E => [0xCB, 0xCB]
  | .set_1_H => [0xCB, 0xCC]
  | .set_1_L => [0xCB, 0xCD]
  | .set_1_mHL => [0xCB, 0xCE]
  | .set_1_A => [0xCB, 0xCF]
  | .set_2_B => [0xCB, 0xD0]
  | .set_2_C => [0xCB, 0xD1]
  | .set_2_D => [0xCB, 0xD2]
  | .set_2_E => [0xCB, 0xD3]
  | .set_2_H => [0xCB, 0xD4]
  | .set_2_L => [0xCB, 0xD5]
  | .set_2_mHL => [0xCB, 0xD6]
  | .set_2_A => [0xCB, 0xD7]
  | .set_3_B => [0xCB, 0xD8]
  | .set_3_C => [0xCB, 0xD9]
  | .set_3_D => [0xCB, 0xDA]
  | .set_3_E => [0xCB, 0xDB]
  | .set_3_H => [0xCB, 0xDC]
  | .set_3_L => [0xCB, 0xDD]
  | .set_3_mHL => [0xCB, 0xDE]
  | .set_3_A => [0xCB, 0xDF]
  | .set_4_B => [0xCB, 0xE0]
  | .set_4_C => [0xCB, 0xE1]
  | .set_4_D => [0xCB, 0xE2]
  | .set_4_E => [0xCB, 0xE3]
  | .set_4_H => [0xCB, 0xE4]
  | .set_4_L => [0xCB, 0xE5]
  | .set_4_mHL => [0xCB, 0xE6]
  | .set_4_A => [0xCB, 0xE7]
  | .set_5_B => [0xCB, 0xE8]
  | .set_5_C => [0xCB, 0xE9]
  | .set_5_D => [0xCB, 0xEA]
  | .set_5_E => [0xCB, 0xEB]
  | .set_5_H => [0xCB, 0xEC]
  | .set_5_L => [0xCB, 0xED]
  | .set_5_mHL => [0xCB, 0xEE]
  | .set_5_A => [0xCB, 0xEF]
  | .set_6_B => [0xCB, 0xF0]
  | .set_6_C => [0xCB, 0xF1]
  | .set_6_D => [0xCB, 0xF2]
  | .set_6_E => [0xCB, 0xF3]
  | .set_6_H => [0xCB, 0xF4]
  | .set_6_L => [0xCB, 0xF5]
  | .set_6_mHL => [0xCB, 0xF6]
  | .set_6_A => [0xCB, 0xF7]
  | .set_7_B => [0xCB, 0xF8]
  | .set_7_C => [0xCB, 0xF9]
  | .set_7_D => [0xCB, 0xFA]
  | .set_7_E => [0xCB, 0xFB]
  | .set_7_H => [0xCB, 0xFC]
  | .set_7_L => [0xCB, 0xFD]
  | .set_7_mHL => [0xCB, 0xFE]
  | .set_7_A => [0xCB, 0xFF]
  | .jp_nn nn => [0xC3, loByte nn, hiByte nn]
  | .jp_NZ_nn nn => [0xC2, loByte nn, hiByte nn]
  | .jp_Z_nn nn => [0xCA, loByte nn, hiByte nn]
  | .jp_NC_nn nn => [0xD2, loByte nn, hiByte nn]
  | .jp_C_nn nn => [0xDA, loByte nn, hiByte nn]
  | .jp_HL => [0xE9]
  | .jr_e e => [0x18, e]
  | .jr_NZ_e e => [0x20, e]
  | .jr_Z_e e => [0x28, e]
  | .jr_NC_e e => [0x30, e]
  | .jr_C_e e => [0x38, e]
  | .call_nn nn => [0xCD, loByte nn, hiByte nn]
  | .call_NZ_nn nn => [0xC4, loByte nn, hiByte nn]
  | .call_Z_nn nn => [0xCC, loByte nn, hiByte nn]
  | .call_NC_nn nn => [0xD4, loByte nn, hiByte nn]
  | .call_C_nn nn => [0xDC, loByte nn, hiByte nn]
  | .ret => [0xC9]
  | .ret_NZ => [0xC0]
  | .ret_Z => [0xC8]
  | .ret_NC => [0xD0]
  | .ret_C => [0xD8]
  | .reti => [0xD9]
  | .rst_00 => [0xC7]
  | .rst_08 => [0xCF]
  | .rst_10 => [0xD7]
  | .rst_18 => [0xDF]
  | .rst_20 => [0xE7]
  | .rst_28 => [0xEF]
  | .rst_30 => [0xF7]
  | .rst_38 => [0xFF]
  | .nop => [0x00]
  | .halt => [0x76]
  | .stop n => [0x10, n]
  | .di => [0xF3]
  | .ei => [0xFB]
  | .illegal_D3 => [0xD3]
  | .illegal_DB => [0xDB]
  | .illegal_DD => [0xDD]
  | .illegal_E3 => [0xE3]
  | .illegal_E4 => [0xE4]
  | .illegal_EB => [0xEB]
  | .illegal_EC => [0xEC]
  | .illegal_ED => [0xED]
  | .illegal_F4 => [0xF4]
  | .illegal_FC => [0xFC]
  | .illegal_FD => [0xFD]

/-- The total encoded length in bytes (R71). -/
def Instr.length (i : Instr) : Nat := (encode i).length

/-- The undefined byte that a row of format `ILLEGAL` stands for (R90). -/
def Instr.undefinedByte (i : Instr) : Option Byte :=
  match encode i with
  | [b] => if b ∈ undefinedBytes then some b else none
  | _ => none

/-- How far a step moves the program counter before the instruction runs: the encoded length (R20, R21), and
nothing where the decode fails (R270). -/
def Instr.pcAdvance (i : Instr) : Nat :=
  match i.undefinedByte with
  | some _ => 0
  | none => i.length

end Sys2Proof
end

