-- ==== Sys2Proof/Machine/State.lean ====
section
/-! DEFINITION. The state of the machine as plain data: what 10_state.md section 1 lists, the launch parameters
that 00_scope.md section 6 and R47 hand to the model (`platform`), and one counter of the model's own (`draws`). -/

namespace Sys2Proof.Machine

/-- The two low-power states (R272, R295). -/
inductive LowPowerKind where
  /-- Entered by `HALT` (R261). -/
  | halt
  /-- Entered by `STOP` (R262). -/
  | stop
deriving DecidableEq, Repr

/-- The run state (R272). -/
inductive RunState where
  /-- The core executes instructions when stepped. -/
  | running
  /-- `run_until_break()` stopped before the instruction at `pc` (R282). -/
  | breakHalted
  /-- The byte `op` at `addr` has no opcode entry (R270). -/
  | decodeFault (addr : Word) (op : Byte)
  /-- The core executed `HALT` or `STOP`. -/
  | lowPower (k : LowPowerKind)
deriving DecidableEq, Repr

/-- The names of the map of R48, and numbered names for the regions of other platforms (R46). -/
inductive RegionName where
  | rom0 | romX | vram | xram | wram | oam | io | hram | ie
  | other (n : Nat)
deriving DecidableEq, Repr

/-- What backs a registered region (R48, column "kind in this block"). -/
inductive RegionKind where
  /-- Stores are read back. -/
  | storage
  /-- Cartridge-mapped: stores follow `CART_STORE_POLICY` (R51). -/
  | external
deriving DecidableEq, Repr

/-- A named, inclusive address range with a backing store (R46). -/
structure Region where
  name : RegionName
  first : Word
  last : Word
  kind : RegionKind
deriving DecidableEq, Repr

/-- The launch parameters: fixed before the first step and changed by none (R47; 92_eei_decisions.md, "Open
parameters"). They stand in the state because `step` has no other argument (DESIGN CHOICE: log 8). -/
structure Platform where
  /-- The registered regions in priority order (R46). -/
  regions : List Region
  /-- `CART_STORE_POLICY` (R51). -/
  cartStore : CartStorePolicy
  /-- `UNMAPPED_POLICY` (R49). -/
  unmapped : UnmappedPolicy
deriving DecidableEq, Repr

/-- The address map of R48, without the echo range, which no canonical address lies in (R45), and without the
range "not usable", which no region covers (R49). -/
def referenceRegions : List Region :=
  [ ⟨.rom0, Config.romBase, Config.rom0End, .external⟩,
    ⟨.romX, Config.romXBase, Config.romEnd, .external⟩,
    ⟨.vram, Config.vramBase, Config.vramEnd, .storage⟩,
    ⟨.xram, Config.xramBase, Config.xramEnd, .external⟩,
    ⟨.wram, Config.wramBase, Config.wramEnd, .storage⟩,
    ⟨.oam, Config.oamBase, Config.oamEnd, .storage⟩,
    ⟨.io, Config.highPage, Config.ioEnd, .storage⟩,
    ⟨.hram, Config.hramBase, Config.hramEnd, .storage⟩,
    ⟨.ie, Config.ieAddr, Config.ieAddr, .storage⟩ ]

/-- The reference configuration (92_eei_decisions.md D3, D4, D17). -/
def referencePlatform : Platform :=
  { regions := referenceRegions, cartStore := .storage, unmapped := .storage }

/-- One byte per canonical address (R40): strictly rising addresses, and no entry that equals what an unlisted
address reads as. -/
abbrev Memory := List Host.Cell

/-- The numbers that are canonical addresses (R40, R45): 16-bit, outside the echo range. -/
abbrev IsCellAddr (n : Nat) : Prop :=
  n < 65536 ∧ ¬ (Config.echoBase.toNat ≤ n ∧ n ≤ Config.echoEnd.toNat)

/-- The canonical form of a memory. -/
abbrev Memory.wf (m : Memory) : Prop :=
  m.Pairwise (fun p q => p.1 < q.1) ∧ ∀ p ∈ m, p.2 ≠ Config.unwrittenByte ∧ IsCellAddr p.1

/-- The whole state. -/
structure State where
  /-- The accumulator (R10). -/
  a : Byte
  /-- The flags register (R15, R17). -/
  f : Byte
  /-- General register B (R10). -/
  b : Byte
  /-- General register C (R10). -/
  c : Byte
  /-- General register D (R10). -/
  d : Byte
  /-- General register E (R10). -/
  e : Byte
  /-- General register H (R10). -/
  h : Byte
  /-- General register L (R10). -/
  l : Byte
  /-- The stack pointer (R18). -/
  sp : Word
  /-- The program counter (R20). -/
  pc : Word
  /-- The interrupt master enable (R23). -/
  ime : Bool
  /-- The run state (R272). -/
  run : RunState
  /-- The breakpoint set, in ascending order (R281). -/
  bp : List Word
  /-- The storage (R40). -/
  mem : Memory
  /-- The launch parameters (R47). -/
  platform : Platform
  /-- The model's own: how many steps have started; the index of the free value of unmapped loads (log 6). -/
  draws : Nat
deriving DecidableEq, Repr

/-- What reset leaves unspecified (R30, R300): the values that the eight registers and SP take. -/
structure Unspecified where
  a : Byte
  f : Byte
  b : Byte
  c : Byte
  d : Byte
  e : Byte
  h : Byte
  l : Byte
  sp : Word
deriving DecidableEq, Repr

/-- Right after reset (R30, R300), on the reference platform, with nothing loaded. The registers the spec leaves
unspecified hold zero (DESIGN CHOICE, unsafe: log 1). -/
def State.reset : State :=
  { a := 0, f := 0, b := 0, c := 0, d := 0, e := 0, h := 0, l := 0, sp := 0
    pc := Config.resetPc, ime := false, run := .running, bp := []
    mem := [], platform := referencePlatform, draws := 0 }

/-- The reasons of an `Outcome.fault`. There are none: the machine's only exception, the decode failure, is a run
state that the step enters (R270, R272), no access and no defined instruction faults (R271), so nothing raises an
`Outcome.fault`. That no step faults is the spec's own statement, and neither safe nor unsafe by a choice of the
model (log 10). -/
inductive Fault where
deriving DecidableEq, Repr

/-- The reasons of an `Outcome.refused`. -/
inductive Refusal where
  /-- Raised by `exec`'s arm of an instruction that has no meaning yet. Safe: nothing is proved of it. -/
  | notModelled (mnemonic : String)
  /-- Raised by a store to canonical address `addr` of a cartridge-mapped region under
  `CART_STORE_POLICY = external`: "the model refuses the store" (R51, U7). Safe: the model stops where the
  hardware goes on. -/
  | externalCartStore (addr : Word)
deriving DecidableEq, Repr

end Sys2Proof.Machine
end

