-- ==== Sys2Proof/Machine/Ops.lean ====
section
/-! DEFINITION. The named operations over memory and registers, the fetch, the decode failure, and reset. -/

namespace Sys2Proof.Machine

/-- What a meaning answers. -/
abbrev Result := Host.Outcome State Fault Refusal

/-- Runs `k` on the next state, if there is one. -/
def andThen (o : Result) (k : State → Result) : Result :=
  match o with
  | .next s => k s
  | .fault r => .fault r
  | .refused r => .refused r

/-- The next state, if there is one. -/
def nextOf (o : Result) : Option State :=
  match o with
  | .next s => some s
  | .fault _ => none
  | .refused _ => none

/-! ## The storage -/

/-- The byte at a canonical address. -/
def Memory.read : Memory → Nat → Byte
  | [], _ => Config.unwrittenByte
  | (k, v) :: m, n => if k = n then v else Memory.read m n

/-- Drops the entries of an address. -/
def Memory.remove : Memory → Nat → Memory
  | [], _ => []
  | (k, u) :: m, n => if k = n then Memory.remove m n else (k, u) :: Memory.remove m n

/-- Puts an entry before the first larger address. -/
def Memory.insert : Memory → Nat → Byte → Memory
  | [], n, v => [(n, v)]
  | (k, u) :: m, n, v => if n < k then (n, v) :: (k, u) :: m else (k, u) :: Memory.insert m n v

/-- Writes the byte at a canonical address, keeping the canonical form. -/
def Memory.write (m : Memory) (n : Nat) (v : Byte) : Memory :=
  if v = Config.unwrittenByte then m.remove n else (m.remove n).insert n v

/-! ## The address decoder (20_memory.md) -/

/-- The echo translation (R45). -/
def canon (a : Word) : Word :=
  if Config.echoBase ≤ a ∧ a ≤ Config.echoEnd then a - Config.echoBase + Config.wramBase else a

/-- Whether the region's range contains the canonical address (R46). -/
def Region.contains (r : Region) (c : Word) : Bool := decide (r.first ≤ c ∧ c ≤ r.last)

/-- The first region in priority order whose range contains the canonical address (R46). -/
def resolve : List Region → Word → Option Region
  | [], _ => none
  | r :: rs, c => if r.contains c then some r else resolve rs c

/-- How a cell behaves: its region's kind, after the policies of the platform (R49, R50, R51). -/
inductive CellKind where
  /-- A store is read back. -/
  | storage
  /-- A store changes nothing (R51, `ignore`). -/
  | readOnly
  /-- A store is refused (R51, `external`). -/
  | refusing
  /-- Loads give a fixed pattern (R49). -/
  | constant (v : Byte)
  /-- Loads give any value (U2). -/
  | drawn
deriving DecidableEq, Repr

/-- The kind of a canonical address on a platform. -/
def Platform.cellKind (p : Platform) (c : Word) : CellKind :=
  match resolve p.regions c with
  | some r =>
    match r.kind with
    | .storage => .storage
    | .external =>
      match p.cartStore with
      | .storage => .storage
      | .ignore => .readOnly
      | .external => .refusing
  | none =>
    match p.unmapped with
    | .storage => .storage
    | .pattern v => .constant v
    | .draw => .drawn

/-- The kind of the cell that an address reaches. -/
def State.kindAt (s : State) (a : Word) : CellKind := s.platform.cellKind (canon a)

/-- The content of the cell that an address reaches, whatever its kind. -/
def State.cell (s : State) (a : Word) : Byte := s.mem.read (canon a).toNat

/-- A load of one byte (R41), for one kind of access. It changes no state. -/
def State.readAs (k : Access) (s : State) (a : Word) : Byte :=
  match s.kindAt a with
  | .storage => s.cell a
  | .readOnly => s.cell a
  | .refusing => s.cell a
  | .constant v => v
  | .drawn => Config.unmappedDraw s.draws k (canon a)

/-- `load_byte` as an instruction's data access (R41). -/
def State.loadByte (s : State) (a : Word) : Byte := s.readAs .data a

/-- `load_byte` as an instruction fetch (R41, R58). -/
def State.fetchByte (s : State) (a : Word) : Byte := s.readAs .fetch a

/-- Puts a byte in the cell that an address reaches, whatever its kind: what the platform's loader does before
the first step (R47). -/
def State.placeByte (s : State) (a : Word) (v : Byte) : State :=
  { s with mem := s.mem.write (canon a).toNat v }

/-- The state after a store that the cell accepts (R42, R49, R51). -/
def State.stored (s : State) (a : Word) (v : Byte) : State :=
  match s.kindAt a with
  | .readOnly => s
  | _ => s.placeByte a v

/-- `store(address, byte)` (R42), refused only where the platform says so (R51). -/
def storeByte (a : Word) (v : Byte) (s : State) : Result :=
  match s.kindAt a with
  | .refusing => .refused (.externalCartStore (canon a))
  | _ => .next (s.stored a v)

/-- A store to the address is accepted: its cell's platform does not hand the store to an external mapper (R51). -/
abbrev State.Accepts (s : State) (a : Word) : Prop := s.kindAt a ≠ .refusing

/-- `load_word_le` (R43): the low byte at the address, the high byte at the next, modulo 65536. -/
def State.loadWord (s : State) (a : Word) : Word := joinBytes (s.loadByte (a + 1#16)) (s.loadByte a)

/-- `store_word_le` (R44). -/
def storeWord (a : Word) (v : Word) (s : State) : Result :=
  andThen (storeByte a (loByte v) s) (storeByte (a + 1#16) (hiByte v))

/-- Places bytes at consecutive addresses modulo 65536 (R47). -/
def State.placeBytes (s : State) (a : Word) : List Byte → State
  | [] => s
  | v :: vs => (s.placeByte a v).placeBytes (a + 1#16) vs

/-! ## Registers (10_state.md section 2) -/

/-- `x[r]` (R10). -/
def State.reg8 (s : State) : Reg8 → Byte
  | .A => s.a
  | .B => s.b
  | .C => s.c
  | .D => s.d
  | .E => s.e
  | .H => s.h
  | .L => s.l

/-- `x[r] <- v` (R10, R11). -/
def State.setReg8 (s : State) (r : Reg8) (v : Byte) : State :=
  match r with
  | .A => { s with a := v }
  | .B => { s with b := v }
  | .C => { s with c := v }
  | .D => { s with d := v }
  | .E => { s with e := v }
  | .H => { s with h := v }
  | .L => { s with l := v }

/-- `x[F] <- v`: bits 3..0 are forced to zero (R17). -/
def State.setF (s : State) (v : Byte) : State := { s with f := v &&& Config.flagMask }

/-- `x[rr]` (R12, R14, R18). -/
def State.reg16 (s : State) : Reg16 → Word
  | .AF => joinBytes s.a s.f
  | .BC => joinBytes s.b s.c
  | .DE => joinBytes s.d s.e
  | .HL => joinBytes s.h s.l
  | .SP => s.sp

/-- `x[rr] <- v` (R13, R17, R18). -/
def State.setReg16 (s : State) (rr : Reg16) (v : Word) : State :=
  match rr with
  | .AF => { s with a := hiByte v, f := loByte v &&& Config.flagMask }
  | .BC => { s with b := hiByte v, c := loByte v }
  | .DE => { s with d := hiByte v, e := loByte v }
  | .HL => { s with h := hiByte v, l := loByte v }
  | .SP => { s with sp := v }

/-! ## The stack (R18, R154, R155) -/

/-- Decrements SP by 2, then stores the word there, low byte at SP. -/
def pushWord (v : Word) (s : State) : Result :=
  storeWord (s.sp - 2#16) v { s with sp := s.sp - 2#16 }

/-- The word on top of the stack, low byte at SP. -/
def State.topWord (s : State) : Word := s.loadWord s.sp

/-- The state after a pop: SP is incremented by 2. -/
def State.dropWord (s : State) : State := { s with sp := s.sp + 2#16 }

/-! ## Fetch and program counter (R20, R21, R276) -/

/-- The instruction at the program counter. Three bytes are read; those past the instruction's length do not
matter, and a read changes no state (R41, log 17). -/
def State.fetchInstr (s : State) : Instr :=
  decode3 (s.fetchByte s.pc) (s.fetchByte (s.pc + 1#16)) (s.fetchByte (s.pc + 2#16))

/-- What a step does before the instruction runs: PC moves past its bytes (R276), except where the decode fails
(R270), `run` becomes `Running` (R276), and the draw counter moves on (log 6). -/
def State.advance (s : State) (i : Instr) : State :=
  { s with pc := s.pc + BitVec.ofNat 16 i.pcAdvance, run := .running, draws := s.draws + 1 }

/-- The run states in which a step executes an instruction (R272, R276). -/
def RunState.steppable : RunState → Bool
  | .running => true
  | .breakHalted => true
  | .decodeFault _ _ => false
  | .lowPower _ => false

/-- A step in `DecodeFault` or `LowPower` executes nothing and changes nothing (R273). -/
def holdState (s : State) : Result := .next s

/-! ## The decode failure and reset (R270, R279, R300) -/

/-- The only exception (R270): the failing address and the byte are recorded in the run state and nothing else
changes. PC has not been advanced, so it is the failing address. There is no handler, no saved register and no mode
(R277). -/
def raiseDecodeFault (op : Byte) (s : State) : Result := .next { s with run := .decodeFault s.pc op }

/-- Reset (R300), the one way out of `DecodeFault` and `LowPower` (R279, R295). Memory and the platform stay. The
registers that become unspecified take the values `u`, an input (U4). -/
def State.resetEvent (s : State) (u : Unspecified) : State :=
  { a := u.a, f := u.f &&& Config.flagMask, b := u.b, c := u.c, d := u.d, e := u.e, h := u.h, l := u.l, sp := u.sp
    pc := Config.resetPc, ime := false, run := .running, bp := []
    mem := s.mem, platform := s.platform, draws := s.draws }

/-- The state of a machine before its first step (R47): a platform with its regions, initial memory contents placed
at their addresses, and reset (R300). Where two entries of the contents cover one cell (overlapping regions, or an
address and its echo alias), the spec does not say whose byte the cell holds: the later entry of the list wins,
whatever the regions' priority (DESIGN CHOICE, unsafe: log 36). -/
def launch (p : Platform) (contents : List (Word × List Byte)) (u : Unspecified) : State :=
  (contents.foldl (fun (s : State) c => s.placeBytes c.1 c.2) { State.reset with platform := p }).resetEvent u

/-- The named launch state `PostBootDMG` (R301), over the memory and platform of `s`. -/
def State.postBootDMG (s : State) : State :=
  { s.resetEvent ⟨0x01, 0xB0, 0x00, 0x13, 0x00, 0xD8, 0x01, 0x4D, 0xFFFE⟩ with pc := 0x0100#16 }

/-- Lays an instruction's bytes where the next fetch reads them, on a core that will run it: a stopped core is set
running, and loads of unmapped addresses give what was placed there. -/
def State.placeInstr (s : State) (bs : List Byte) : State :=
  let t := s.placeBytes s.pc bs
  { t with
    run := if s.run.steppable then s.run else .running
    platform :=
      if [s.pc, s.pc + 1#16, s.pc + 2#16].all (fun a => (resolve s.platform.regions (canon a)).isSome) then s.platform
      else { s.platform with unmapped := .storage } }

end Sys2Proof.Machine
end

