-- ==== Sys2Proof/Machine/Flags.lean ====
section
/-! DEFINITION. The flags (R15 to R17), the condition codes (R83), and every result and flag computation of the ALU as
pure functions: exact integers first, reduced at the end (R5). -/

namespace Sys2Proof.Machine

/-- A single bit as a byte. -/
def bitByte (b : Bool) : Byte := if b then 1#8 else 0#8

/-- F.Z (R15). -/
def State.flagZ (s : State) : Bool := s.f.getLsbD Config.flagZ
/-- F.N (R15). -/
def State.flagN (s : State) : Bool := s.f.getLsbD Config.flagN
/-- F.H (R15). -/
def State.flagH (s : State) : Bool := s.f.getLsbD Config.flagH
/-- F.C (R15). -/
def State.flagC (s : State) : Bool := s.f.getLsbD Config.flagC

/-- The byte with the four flags at their places (R15). -/
def packFlags (z n h c : Bool) : Byte :=
  (bitByte z <<< Config.flagZ) ||| (bitByte n <<< Config.flagN) ||| (bitByte h <<< Config.flagH)
    ||| (bitByte c <<< Config.flagC)

/-- Writes the flags. An instruction that leaves one unaffected gives its old value. -/
def State.setFlags (s : State) (z n h c : Bool) : State := s.setF (packFlags z n h c)

/-- `cond(cc)` (R83). -/
def State.cond (s : State) : Cond → Bool
  | .NZ => !s.flagZ
  | .Z => s.flagZ
  | .NC => !s.flagC
  | .C => s.flagC

/-- A result byte and the four flags. -/
structure AluOut where
  res : Byte
  z : Bool
  n : Bool
  h : Bool
  c : Bool
deriving DecidableEq, Repr

/-- `a + v + c` (R170, R171). -/
def addBytes (a v : Byte) (c : Bool) : AluOut :=
  { res := BitVec.ofNat 8 (a.toNat + v.toNat + c.toNat)
    z := BitVec.ofNat 8 (a.toNat + v.toNat + c.toNat) == 0#8
    n := false
    h := decide (a.toNat % 16 + v.toNat % 16 + c.toNat > 0xF)
    c := decide (a.toNat + v.toNat + c.toNat > 0xFF) }

/-- `a - v - c` (R172, R173, R177). -/
def subBytes (a v : Byte) (c : Bool) : AluOut :=
  { res := BitVec.ofInt 8 ((a.toNat : Int) - v.toNat - c.toNat)
    z := BitVec.ofInt 8 ((a.toNat : Int) - v.toNat - c.toNat) == 0#8
    n := true
    h := decide (a.toNat % 16 < v.toNat % 16 + c.toNat)
    c := decide (a.toNat < v.toNat + c.toNat) }

/-- `AND` (R174). -/
def andBytes (a v : Byte) : AluOut := { res := a &&& v, z := (a &&& v) == 0#8, n := false, h := true, c := false }

/-- `XOR` (R175). -/
def xorBytes (a v : Byte) : AluOut := { res := a ^^^ v, z := (a ^^^ v) == 0#8, n := false, h := false, c := false }

/-- `OR` (R176). -/
def orBytes (a v : Byte) : AluOut := { res := a ||| v, z := (a ||| v) == 0#8, n := false, h := false, c := false }

/-- The eight accumulator operations on `a`, `v` and F.C (R170 to R177). -/
def aluOut (op : AluOp) (a v : Byte) (cin : Bool) : AluOut :=
  match op with
  | .ADD => addBytes a v false
  | .ADC => addBytes a v cin
  | .SUB => subBytes a v false
  | .SBC => subBytes a v cin
  | .AND => andBytes a v
  | .XOR => xorBytes a v
  | .OR => orBytes a v
  | .CP => subBytes a v false

/-- `INC x`: C is kept (R178). -/
def incByte (v : Byte) (cOld : Bool) : AluOut :=
  { res := v + 1#8, z := (v + 1#8) == 0#8, n := false, h := decide (v.toNat % 16 = 0xF), c := cOld }

/-- `DEC x`: C is kept (R179). -/
def decByte (v : Byte) (cOld : Bool) : AluOut :=
  { res := v - 1#8, z := (v - 1#8) == 0#8, n := true, h := decide (v.toNat % 16 = 0), c := cOld }

/-- The correction of `DAA` after an addition (R180). -/
def daaAdjustAdd (a : Byte) (h c : Bool) : Byte :=
  (if h || decide (a.toNat % 16 > 9) then 0x06#8 else 0#8) ||| (if c || decide (a.toNat > 0x99) then 0x60#8 else 0#8)

/-- The correction of `DAA` after a subtraction (R180). -/
def daaAdjustSub (h c : Bool) : Byte := (if h then 0x06#8 else 0#8) ||| (if c then 0x60#8 else 0#8)

/-- `DAA` from A and the flags N, H, C (R180). -/
def daaByte (a : Byte) (n h c : Bool) : AluOut :=
  if n then
    { res := a - daaAdjustSub h c, z := (a - daaAdjustSub h c) == 0#8, n := true, h := false, c := c }
  else
    { res := a + daaAdjustAdd a h c, z := (a + daaAdjustAdd a h c) == 0#8, n := false, h := false
      c := c || decide (a.toNat > 0x99) }

/-- The result byte and the carry of the eight prefixed rotates and shifts (R214 to R221). -/
def rotOut (op : RotOp) (v : Byte) (cin : Bool) : Byte × Bool :=
  match op with
  | .RLC => ((v <<< 1) ||| bitByte (v.getLsbD 7), v.getLsbD 7)
  | .RRC => ((v >>> 1) ||| (bitByte (v.getLsbD 0) <<< 7), v.getLsbD 0)
  | .RL => ((v <<< 1) ||| bitByte cin, v.getLsbD 7)
  | .RR => ((v >>> 1) ||| (bitByte cin <<< 7), v.getLsbD 0)
  | .SLA => (v <<< 1, v.getLsbD 7)
  | .SRA => ((v >>> 1) ||| (v &&& 0x80#8), v.getLsbD 0)
  | .SWAP => ((v <<< 4) ||| (v >>> 4), false)
  | .SRL => (v >>> 1, v.getLsbD 0)

/-- A result word with H and C. -/
structure WordOut where
  res : Word
  h : Bool
  c : Bool
deriving DecidableEq, Repr

/-- `ADD HL,rr`: carries out of bits 11 and 15 (R200). -/
def addWords (x v : Word) : WordOut :=
  { res := BitVec.ofNat 16 (x.toNat + v.toNat)
    h := decide (x.toNat % 4096 + v.toNat % 4096 > 0xFFF)
    c := decide (x.toNat + v.toNat > 0xFFFF) }

/-- SP plus a signed offset, with the carries of the unsigned addition of the low byte of SP and the raw offset byte
(R153, R203). -/
def addOffset (sp : Word) (e : Byte) : WordOut :=
  { res := sp + sext16 e
    h := decide (sp.toNat % 16 + e.toNat % 16 > 0xF)
    c := decide (sp.toNat % 256 + e.toNat > 0xFF) }

end Sys2Proof.Machine
end

