-- ==== Sys2Proof/Machine/Operands.lean ====
section
/-! DEFINITION. The operand multiplexer (30_encoding.md section 4, rules R75 to R83). An operand says how to find a
value; it holds none of the machine's values itself (R78). -/

namespace Sys2Proof.Machine

/-- The optional change of the register after a register-indirect access (R80). -/
inductive Post where
  | none | inc | dec
deriving DecidableEq, Repr

/-- The 8-bit operands that are both source and destination (R78). -/
inductive Loc8 where
  /-- `Reg8(r)` (R79). -/
  | reg (r : Reg8)
  /-- `IndReg(rr, post)` (R80). -/
  | ind (rr : Reg16) (post : Post)
  /-- `IndImm16` (R82). -/
  | abs (nn : Word)
  /-- `HighImm8` (R81). -/
  | highImm (n : Byte)
  /-- `HighC` (R81). -/
  | highC
deriving DecidableEq, Repr

/-- The 8-bit sources: `Imm8`, which is no destination (R75), and the others. -/
inductive Src8 where
  | imm (n : Byte)
  | loc (l : Loc8)
deriving DecidableEq, Repr

/-- The 16-bit sources: `Imm16` (R76), `Reg16` (R79), and `RegPlusS8` on SP and on the advanced PC (R77). -/
inductive Src16 where
  | imm (nn : Word)
  | reg (rr : Reg16)
  | spPlus (e : Byte)
  | pcPlus (e : Byte)
deriving DecidableEq, Repr

/-- The 16-bit destinations: `Reg16` (R79) and the word form of `IndImm16` (R82). -/
inductive Dst16 where
  | reg (rr : Reg16)
  | abs (nn : Word)
deriving DecidableEq, Repr

/-- The effective address of a memory operand, from the registers before the access (R80 to R82). -/
def Loc8.addr (l : Loc8) (s : State) : Option Word :=
  match l with
  | .reg _ => none
  | .ind rr _ => some (s.reg16 rr)
  | .abs nn => some nn
  | .highImm n => some (Config.highPage + zext16 n)
  | .highC => some (Config.highPage + zext16 s.c)

/-- `load()` of an 8-bit operand. -/
def Loc8.load (l : Loc8) (s : State) : Byte :=
  match l with
  | .reg r => s.reg8 r
  | .ind rr _ => s.loadByte (s.reg16 rr)
  | .abs nn => s.loadByte nn
  | .highImm n => s.loadByte (Config.highPage + zext16 n)
  | .highC => s.loadByte (Config.highPage + zext16 s.c)

/-- The post-access change of the register (R80). -/
def Loc8.after (l : Loc8) (s : State) : State :=
  match l with
  | .ind rr .inc => s.setReg16 rr (s.reg16 rr + 1#16)
  | .ind rr .dec => s.setReg16 rr (s.reg16 rr - 1#16)
  | _ => s

/-- `store(v)` of an 8-bit operand, with the post-access change. -/
def Loc8.store (l : Loc8) (v : Byte) (s : State) : Result :=
  match l with
  | .reg r => .next (s.setReg8 r v)
  | .ind rr p => andThen (storeByte (s.reg16 rr) v s) (fun t => .next ((Loc8.ind rr p).after t))
  | .abs nn => storeByte nn v s
  | .highImm n => storeByte (Config.highPage + zext16 n) v s
  | .highC => storeByte (Config.highPage + zext16 s.c) v s

/-- `load()` of an 8-bit source. -/
def Src8.load (x : Src8) (s : State) : Byte :=
  match x with
  | .imm n => n
  | .loc l => l.load s

/-- The post-access change of an 8-bit source. -/
def Src8.after (x : Src8) (s : State) : State :=
  match x with
  | .imm _ => s
  | .loc l => l.after s

/-- `load()` of a 16-bit source. `s.pc` is already the address after the instruction (R20). -/
def Src16.load (x : Src16) (s : State) : Word :=
  match x with
  | .imm nn => nn
  | .reg rr => s.reg16 rr
  | .spPlus e => s.sp + sext16 e
  | .pcPlus e => s.pc + sext16 e

/-- `store(v)` of a 16-bit destination. -/
def Dst16.store (x : Dst16) (v : Word) (s : State) : Result :=
  match x with
  | .reg rr => .next (s.setReg16 rr v)
  | .abs nn => storeWord nn v s

/-- The operand of an `r` field (R72). -/
def placeLoc : Place8 → Loc8
  | .reg r => .reg r
  | .mHL => .ind .HL .none

/-- The register of an `rp` field (R73). -/
def pairReg : Pair → Reg16
  | .BC => .BC
  | .DE => .DE
  | .HL => .HL
  | .SP => .SP

/-- The register of an `rp2` field (R73). -/
def stackPairReg : StackPair → Reg16
  | .BC => .BC
  | .DE => .DE
  | .HL => .HL
  | .AF => .AF

end Sys2Proof.Machine
end

