-- ==== Sys2Proof/Machine/Alu16.lean ====
section
/-! DEFINITION. 16-bit arithmetic (43_alu16.md). -/

namespace Sys2Proof.Machine

/-- Adds a pair to HL (R200); Z is kept. -/
def addHLPair (rr : Reg16) (s : State) : Result :=
  let o := addWords (s.reg16 .HL) (s.reg16 rr)
  .next ((s.setReg16 .HL o.res).setFlags s.flagZ false o.h o.c)

/-- Increments a pair (R201). -/
def inc16 (rr : Reg16) (s : State) : Result := .next (s.setReg16 rr (s.reg16 rr + 1#16))

/-- Decrements a pair (R202). -/
def dec16 (rr : Reg16) (s : State) : Result := .next (s.setReg16 rr (s.reg16 rr - 1#16))

/-- Adds a signed offset to SP (R203). -/
def addSPe (e : Byte) (s : State) : Result :=
  .next ((s.setReg16 .SP (Src16.load (.spPlus e) s)).setFlags false false (addOffset s.sp e).h (addOffset s.sp e).c)

/-- `ADD HL,BC` (R200). -/
def execAdd_HL_BC (s : State) : Result :=
  addHLPair .BC s

/-- `ADD HL,DE` (R200). -/
def execAdd_HL_DE (s : State) : Result :=
  addHLPair .DE s

/-- `ADD HL,HL` (R200). -/
def execAdd_HL_HL (s : State) : Result :=
  addHLPair .HL s

/-- `ADD HL,SP` (R200). -/
def execAdd_HL_SP (s : State) : Result :=
  addHLPair .SP s

/-- `INC BC` (R201). -/
def execInc_BC (s : State) : Result :=
  inc16 .BC s

/-- `INC DE` (R201). -/
def execInc_DE (s : State) : Result :=
  inc16 .DE s

/-- `INC HL` (R201). -/
def execInc_HL (s : State) : Result :=
  inc16 .HL s

/-- `INC SP` (R201). -/
def execInc_SP (s : State) : Result :=
  inc16 .SP s

/-- `DEC BC` (R202). -/
def execDec_BC (s : State) : Result :=
  dec16 .BC s

/-- `DEC DE` (R202). -/
def execDec_DE (s : State) : Result :=
  dec16 .DE s

/-- `DEC HL` (R202). -/
def execDec_HL (s : State) : Result :=
  dec16 .HL s

/-- `DEC SP` (R202). -/
def execDec_SP (s : State) : Result :=
  dec16 .SP s

/-- `ADD SP,e` (R203). -/
def execAdd_SP_e (e : Byte) (s : State) : Result :=
  addSPe e s

end Sys2Proof.Machine
end

