-- ==== Sys2Proof/Machine/Alu8.lean ====
section
/-! DEFINITION. 8-bit arithmetic and logic (42_alu8.md). -/

namespace Sys2Proof.Machine

/-- Writes the flags of a result. -/
def State.setOutFlags (s : State) (o : AluOut) : State := s.setFlags o.z o.n o.h o.c

/-- An accumulator operation on a source (R170 to R177); `CP` writes no register. -/
def aluAcc (op : AluOp) (src : Src8) (s : State) : Result :=
  let o := aluOut op s.a (src.load s) s.flagC
  match op with
  | .CP => .next (s.setOutFlags o)
  | _ => .next ((s.setReg8 .A o.res).setOutFlags o)

/-- Writes a result back through the operand it came from, and its flags (R80). -/
def writeBack (l : Loc8) (o : AluOut) (s : State) : Result :=
  andThen (l.store o.res s) (fun t => .next (t.setOutFlags o))

/-- `INC x` (R178). -/
def incLoc (l : Loc8) (s : State) : Result := writeBack l (incByte (l.load s) s.flagC) s

/-- `DEC x` (R179). -/
def decLoc (l : Loc8) (s : State) : Result := writeBack l (decByte (l.load s) s.flagC) s

/-- Decimal adjustment of A (R180). -/
def adjustDecimal (s : State) : Result :=
  let o := daaByte s.a s.flagN s.flagH s.flagC
  .next ((s.setReg8 .A o.res).setOutFlags o)

/-- Complement of A (R181). -/
def complementA (s : State) : Result := .next ((s.setReg8 .A (s.a ^^^ 0xFF#8)).setFlags s.flagZ true true s.flagC)

/-- Sets the carry flag (R182). -/
def setCarry (s : State) : Result := .next (s.setFlags s.flagZ false false true)

/-- Complements the carry flag (R183). -/
def complementCarry (s : State) : Result := .next (s.setFlags s.flagZ false false (!s.flagC))

/-- `ADD A,B` (R170). -/
def execAdd_A_B (s : State) : Result :=
  aluAcc .ADD (.loc (.reg .B)) s

/-- `ADD A,C` (R170). -/
def execAdd_A_C (s : State) : Result :=
  aluAcc .ADD (.loc (.reg .C)) s

/-- `ADD A,D` (R170). -/
def execAdd_A_D (s : State) : Result :=
  aluAcc .ADD (.loc (.reg .D)) s

/-- `ADD A,E` (R170). -/
def execAdd_A_E (s : State) : Result :=
  aluAcc .ADD (.loc (.reg .E)) s

/-- `ADD A,H` (R170). -/
def execAdd_A_H (s : State) : Result :=
  aluAcc .ADD (.loc (.reg .H)) s

/-- `ADD A,L` (R170). -/
def execAdd_A_L (s : State) : Result :=
  aluAcc .ADD (.loc (.reg .L)) s

/-- `ADD A,(HL)` (R170). -/
def execAdd_A_mHL (s : State) : Result :=
  aluAcc .ADD (.loc (.ind .HL .none)) s

/-- `ADD A,A` (R170). -/
def execAdd_A_A (s : State) : Result :=
  aluAcc .ADD (.loc (.reg .A)) s

/-- `ADD A,n` (R170). -/
def execAdd_A_n (n : Byte) (s : State) : Result :=
  aluAcc .ADD (.imm n) s

/-- `ADC A,B` (R171). -/
def execAdc_A_B (s : State) : Result :=
  aluAcc .ADC (.loc (.reg .B)) s

/-- `ADC A,C` (R171). -/
def execAdc_A_C (s : State) : Result :=
  aluAcc .ADC (.loc (.reg .C)) s

/-- `ADC A,D` (R171). -/
def execAdc_A_D (s : State) : Result :=
  aluAcc .ADC (.loc (.reg .D)) s

/-- `ADC A,E` (R171). -/
def execAdc_A_E (s : State) : Result :=
  aluAcc .ADC (.loc (.reg .E)) s

/-- `ADC A,H` (R171). -/
def execAdc_A_H (s : State) : Result :=
  aluAcc .ADC (.loc (.reg .H)) s

/-- `ADC A,L` (R171). -/
def execAdc_A_L (s : State) : Result :=
  aluAcc .ADC (.loc (.reg .L)) s

/-- `ADC A,(HL)` (R171). -/
def execAdc_A_mHL (s : State) : Result :=
  aluAcc .ADC (.loc (.ind .HL .none)) s

/-- `ADC A,A` (R171). -/
def execAdc_A_A (s : State) : Result :=
  aluAcc .ADC (.loc (.reg .A)) s

/-- `ADC A,n` (R171). -/
def execAdc_A_n (n : Byte) (s : State) : Result :=
  aluAcc .ADC (.imm n) s

/-- `SUB B` (R172). -/
def execSub_B (s : State) : Result :=
  aluAcc .SUB (.loc (.reg .B)) s

/-- `SUB C` (R172). -/
def execSub_C (s : State) : Result :=
  aluAcc .SUB (.loc (.reg .C)) s

/-- `SUB D` (R172). -/
def execSub_D (s : State) : Result :=
  aluAcc .SUB (.loc (.reg .D)) s

/-- `SUB E` (R172). -/
def execSub_E (s : State) : Result :=
  aluAcc .SUB (.loc (.reg .E)) s

/-- `SUB H` (R172). -/
def execSub_H (s : State) : Result :=
  aluAcc .SUB (.loc (.reg .H)) s

/-- `SUB L` (R172). -/
def execSub_L (s : State) : Result :=
  aluAcc .SUB (.loc (.reg .L)) s

/-- `SUB (HL)` (R172). -/
def execSub_mHL (s : State) : Result :=
  aluAcc .SUB (.loc (.ind .HL .none)) s

/-- `SUB A` (R172). -/
def execSub_A (s : State) : Result :=
  aluAcc .SUB (.loc (.reg .A)) s

/-- `SUB n` (R172). -/
def execSub_n (n : Byte) (s : State) : Result :=
  aluAcc .SUB (.imm n) s

/-- `SBC A,B` (R173). -/
def execSbc_A_B (s : State) : Result :=
  aluAcc .SBC (.loc (.reg .B)) s

/-- `SBC A,C` (R173). -/
def execSbc_A_C (s : State) : Result :=
  aluAcc .SBC (.loc (.reg .C)) s

/-- `SBC A,D` (R173). -/
def execSbc_A_D (s : State) : Result :=
  aluAcc .SBC (.loc (.reg .D)) s

/-- `SBC A,E` (R173). -/
def execSbc_A_E (s : State) : Result :=
  aluAcc .SBC (.loc (.reg .E)) s

/-- `SBC A,H` (R173). -/
def execSbc_A_H (s : State) : Result :=
  aluAcc .SBC (.loc (.reg .H)) s

/-- `SBC A,L` (R173). -/
def execSbc_A_L (s : State) : Result :=
  aluAcc .SBC (.loc (.reg .L)) s

/-- `SBC A,(HL)` (R173). -/
def execSbc_A_mHL (s : State) : Result :=
  aluAcc .SBC (.loc (.ind .HL .none)) s

/-- `SBC A,A` (R173). -/
def execSbc_A_A (s : State) : Result :=
  aluAcc .SBC (.loc (.reg .A)) s

/-- `SBC A,n` (R173). -/
def execSbc_A_n (n : Byte) (s : State) : Result :=
  aluAcc .SBC (.imm n) s

/-- `AND B` (R174). -/
def execAnd_B (s : State) : Result :=
  aluAcc .AND (.loc (.reg .B)) s

/-- `AND C` (R174). -/
def execAnd_C (s : State) : Result :=
  aluAcc .AND (.loc (.reg .C)) s

/-- `AND D` (R174). -/
def execAnd_D (s : State) : Result :=
  aluAcc .AND (.loc (.reg .D)) s

/-- `AND E` (R174). -/
def execAnd_E (s : State) : Result :=
  aluAcc .AND (.loc (.reg .E)) s

/-- `AND H` (R174). -/
def execAnd_H (s : State) : Result :=
  aluAcc .AND (.loc (.reg .H)) s

/-- `AND L` (R174). -/
def execAnd_L (s : State) : Result :=
  aluAcc .AND (.loc (.reg .L)) s

/-- `AND (HL)` (R174). -/
def execAnd_mHL (s : State) : Result :=
  aluAcc .AND (.loc (.ind .HL .none)) s

/-- `AND A` (R174). -/
def execAnd_A (s : State) : Result :=
  aluAcc .AND (.loc (.reg .A)) s

/-- `AND n` (R174). -/
def execAnd_n (n : Byte) (s : State) : Result :=
  aluAcc .AND (.imm n) s

/-- `XOR B` (R175). -/
def execXor_B (s : State) : Result :=
  aluAcc .XOR (.loc (.reg .B)) s

/-- `XOR C` (R175). -/
def execXor_C (s : State) : Result :=
  aluAcc .XOR (.loc (.reg .C)) s

/-- `XOR D` (R175). -/
def execXor_D (s : State) : Result :=
  aluAcc .XOR (.loc (.reg .D)) s

/-- `XOR E` (R175). -/
def execXor_E (s : State) : Result :=
  aluAcc .XOR (.loc (.reg .E)) s

/-- `XOR H` (R175). -/
def execXor_H (s : State) : Result :=
  aluAcc .XOR (.loc (.reg .H)) s

/-- `XOR L` (R175). -/
def execXor_L (s : State) : Result :=
  aluAcc .XOR (.loc (.reg .L)) s

/-- `XOR (HL)` (R175). -/
def execXor_mHL (s : State) : Result :=
  aluAcc .XOR (.loc (.ind .HL .none)) s

/-- `XOR A` (R175). -/
def execXor_A (s : State) : Result :=
  aluAcc .XOR (.loc (.reg .A)) s

/-- `XOR n` (R175). -/
def execXor_n (n : Byte) (s : State) : Result :=
  aluAcc .XOR (.imm n) s

/-- `OR B` (R176). -/
def execOr_B (s : State) : Result :=
  aluAcc .OR (.loc (.reg .B)) s

/-- `OR C` (R176). -/
def execOr_C (s : State) : Result :=
  aluAcc .OR (.loc (.reg .C)) s

/-- `OR D` (R176). -/
def execOr_D (s : State) : Result :=
  aluAcc .OR (.loc (.reg .D)) s

/-- `OR E` (R176). -/
def execOr_E (s : State) : Result :=
  aluAcc .OR (.loc (.reg .E)) s

/-- `OR H` (R176). -/
def execOr_H (s : State) : Result :=
  aluAcc .OR (.loc (.reg .H)) s

/-- `OR L` (R176). -/
def execOr_L (s : State) : Result :=
  aluAcc .OR (.loc (.reg .L)) s

/-- `OR (HL)` (R176). -/
def execOr_mHL (s : State) : Result :=
  aluAcc .OR (.loc (.ind .HL .none)) s

/-- `OR A` (R176). -/
def execOr_A (s : State) : Result :=
  aluAcc .OR (.loc (.reg .A)) s

/-- `OR n` (R176). -/
def execOr_n (n : Byte) (s : State) : Result :=
  aluAcc .OR (.imm n) s

/-- `CP B` (R177). -/
def execCp_B (s : State) : Result :=
  aluAcc .CP (.loc (.reg .B)) s

/-- `CP C` (R177). -/
def execCp_C (s : State) : Result :=
  aluAcc .CP (.loc (.reg .C)) s

/-- `CP D` (R177). -/
def execCp_D (s : State) : Result :=
  aluAcc .CP (.loc (.reg .D)) s

/-- `CP E` (R177). -/
def execCp_E (s : State) : Result :=
  aluAcc .CP (.loc (.reg .E)) s

/-- `CP H` (R177). -/
def execCp_H (s : State) : Result :=
  aluAcc .CP (.loc (.reg .H)) s

/-- `CP L` (R177). -/
def execCp_L (s : State) : Result :=
  aluAcc .CP (.loc (.reg .L)) s

/-- `CP (HL)` (R177). -/
def execCp_mHL (s : State) : Result :=
  aluAcc .CP (.loc (.ind .HL .none)) s

/-- `CP A` (R177). -/
def execCp_A (s : State) : Result :=
  aluAcc .CP (.loc (.reg .A)) s

/-- `CP n` (R177). -/
def execCp_n (n : Byte) (s : State) : Result :=
  aluAcc .CP (.imm n) s

/-- `INC B` (R178). -/
def execInc_B (s : State) : Result :=
  incLoc (.reg .B) s

/-- `INC C` (R178). -/
def execInc_C (s : State) : Result :=
  incLoc (.reg .C) s

/-- `INC D` (R178). -/
def execInc_D (s : State) : Result :=
  incLoc (.reg .D) s

/-- `INC E` (R178). -/
def execInc_E (s : State) : Result :=
  incLoc (.reg .E) s

/-- `INC H` (R178). -/
def execInc_H (s : State) : Result :=
  incLoc (.reg .H) s

/-- `INC L` (R178). -/
def execInc_L (s : State) : Result :=
  incLoc (.reg .L) s

/-- `INC (HL)` (R178). -/
def execInc_mHL (s : State) : Result :=
  incLoc (.ind .HL .none) s

/-- `INC A` (R178). -/
def execInc_A (s : State) : Result :=
  incLoc (.reg .A) s

/-- `DEC B` (R179). -/
def execDec_B (s : State) : Result :=
  decLoc (.reg .B) s

/-- `DEC C` (R179). -/
def execDec_C (s : State) : Result :=
  decLoc (.reg .C) s

/-- `DEC D` (R179). -/
def execDec_D (s : State) : Result :=
  decLoc (.reg .D) s

/-- `DEC E` (R179). -/
def execDec_E (s : State) : Result :=
  decLoc (.reg .E) s

/-- `DEC H` (R179). -/
def execDec_H (s : State) : Result :=
  decLoc (.reg .H) s

/-- `DEC L` (R179). -/
def execDec_L (s : State) : Result :=
  decLoc (.reg .L) s

/-- `DEC (HL)` (R179). -/
def execDec_mHL (s : State) : Result :=
  decLoc (.ind .HL .none) s

/-- `DEC A` (R179). -/
def execDec_A (s : State) : Result :=
  decLoc (.reg .A) s

/-- `DAA` (R180). -/
def execDaa (s : State) : Result :=
  adjustDecimal s

/-- `CPL` (R181). -/
def execCpl (s : State) : Result :=
  complementA s

/-- `SCF` (R182). -/
def execScf (s : State) : Result :=
  setCarry s

/-- `CCF` (R183). -/
def execCcf (s : State) : Result :=
  complementCarry s

end Sys2Proof.Machine
end

