-- ==== Sys2Proof/Machine/Bits.lean ====
section
/-! DEFINITION. Single-bit instructions (45_bit.md). -/

namespace Sys2Proof.Machine

/-- Tests a bit (R230); nothing is written back and C is kept. -/
def bitLoc (b : Fin 8) (l : Loc8) (s : State) : Result :=
  .next (s.setFlags (!(l.load s).getLsbD b.val) false true s.flagC)

/-- Clears a bit (R231). -/
def resLoc (b : Fin 8) (l : Loc8) (s : State) : Result := l.store (l.load s &&& ~~~(1#8 <<< b.val)) s

/-- Sets a bit (R232). -/
def setLoc (b : Fin 8) (l : Loc8) (s : State) : Result := l.store (l.load s ||| (1#8 <<< b.val)) s

/-- `BIT 0,B` (R230). -/
def execBit_0_B (s : State) : Result :=
  bitLoc 0 (.reg .B) s

/-- `BIT 0,C` (R230). -/
def execBit_0_C (s : State) : Result :=
  bitLoc 0 (.reg .C) s

/-- `BIT 0,D` (R230). -/
def execBit_0_D (s : State) : Result :=
  bitLoc 0 (.reg .D) s

/-- `BIT 0,E` (R230). -/
def execBit_0_E (s : State) : Result :=
  bitLoc 0 (.reg .E) s

/-- `BIT 0,H` (R230). -/
def execBit_0_H (s : State) : Result :=
  bitLoc 0 (.reg .H) s

/-- `BIT 0,L` (R230). -/
def execBit_0_L (s : State) : Result :=
  bitLoc 0 (.reg .L) s

/-- `BIT 0,(HL)` (R230). -/
def execBit_0_mHL (s : State) : Result :=
  bitLoc 0 (.ind .HL .none) s

/-- `BIT 0,A` (R230). -/
def execBit_0_A (s : State) : Result :=
  bitLoc 0 (.reg .A) s

/-- `BIT 1,B` (R230). -/
def execBit_1_B (s : State) : Result :=
  bitLoc 1 (.reg .B) s

/-- `BIT 1,C` (R230). -/
def execBit_1_C (s : State) : Result :=
  bitLoc 1 (.reg .C) s

/-- `BIT 1,D` (R230). -/
def execBit_1_D (s : State) : Result :=
  bitLoc 1 (.reg .D) s

/-- `BIT 1,E` (R230). -/
def execBit_1_E (s : State) : Result :=
  bitLoc 1 (.reg .E) s

/-- `BIT 1,H` (R230). -/
def execBit_1_H (s : State) : Result :=
  bitLoc 1 (.reg .H) s

/-- `BIT 1,L` (R230). -/
def execBit_1_L (s : State) : Result :=
  bitLoc 1 (.reg .L) s

/-- `BIT 1,(HL)` (R230). -/
def execBit_1_mHL (s : State) : Result :=
  bitLoc 1 (.ind .HL .none) s

/-- `BIT 1,A` (R230). -/
def execBit_1_A (s : State) : Result :=
  bitLoc 1 (.reg .A) s

/-- `BIT 2,B` (R230). -/
def execBit_2_B (s : State) : Result :=
  bitLoc 2 (.reg .B) s

/-- `BIT 2,C` (R230). -/
def execBit_2_C (s : State) : Result :=
  bitLoc 2 (.reg .C) s

/-- `BIT 2,D` (R230). -/
def execBit_2_D (s : State) : Result :=
  bitLoc 2 (.reg .D) s

/-- `BIT 2,E` (R230). -/
def execBit_2_E (s : State) : Result :=
  bitLoc 2 (.reg .E) s

/-- `BIT 2,H` (R230). -/
def execBit_2_H (s : State) : Result :=
  bitLoc 2 (.reg .H) s

/-- `BIT 2,L` (R230). -/
def execBit_2_L (s : State) : Result :=
  bitLoc 2 (.reg .L) s

/-- `BIT 2,(HL)` (R230). -/
def execBit_2_mHL (s : State) : Result :=
  bitLoc 2 (.ind .HL .none) s

/-- `BIT 2,A` (R230). -/
def execBit_2_A (s : State) : Result :=
  bitLoc 2 (.reg .A) s

/-- `BIT 3,B` (R230). -/
def execBit_3_B (s : State) : Result :=
  bitLoc 3 (.reg .B) s

/-- `BIT 3,C` (R230). -/
def execBit_3_C (s : State) : Result :=
  bitLoc 3 (.reg .C) s

/-- `BIT 3,D` (R230). -/
def execBit_3_D (s : State) : Result :=
  bitLoc 3 (.reg .D) s

/-- `BIT 3,E` (R230). -/
def execBit_3_E (s : State) : Result :=
  bitLoc 3 (.reg .E) s

/-- `BIT 3,H` (R230). -/
def execBit_3_H (s : State) : Result :=
  bitLoc 3 (.reg .H) s

/-- `BIT 3,L` (R230). -/
def execBit_3_L (s : State) : Result :=
  bitLoc 3 (.reg .L) s

/-- `BIT 3,(HL)` (R230). -/
def execBit_3_mHL (s : State) : Result :=
  bitLoc 3 (.ind .HL .none) s

/-- `BIT 3,A` (R230). -/
def execBit_3_A (s : State) : Result :=
  bitLoc 3 (.reg .A) s

/-- `BIT 4,B` (R230). -/
def execBit_4_B (s : State) : Result :=
  bitLoc 4 (.reg .B) s

/-- `BIT 4,C` (R230). -/
def execBit_4_C (s : State) : Result :=
  bitLoc 4 (.reg .C) s

/-- `BIT 4,D` (R230). -/
def execBit_4_D (s : State) : Result :=
  bitLoc 4 (.reg .D) s

/-- `BIT 4,E` (R230). -/
def execBit_4_E (s : State) : Result :=
  bitLoc 4 (.reg .E) s

/-- `BIT 4,H` (R230). -/
def execBit_4_H (s : State) : Result :=
  bitLoc 4 (.reg .H) s

/-- `BIT 4,L` (R230). -/
def execBit_4_L (s : State) : Result :=
  bitLoc 4 (.reg .L) s

/-- `BIT 4,(HL)` (R230). -/
def execBit_4_mHL (s : State) : Result :=
  bitLoc 4 (.ind .HL .none) s

/-- `BIT 4,A` (R230). -/
def execBit_4_A (s : State) : Result :=
  bitLoc 4 (.reg .A) s

/-- `BIT 5,B` (R230). -/
def execBit_5_B (s : State) : Result :=
  bitLoc 5 (.reg .B) s

/-- `BIT 5,C` (R230). -/
def execBit_5_C (s : State) : Result :=
  bitLoc 5 (.reg .C) s

/-- `BIT 5,D` (R230). -/
def execBit_5_D (s : State) : Result :=
  bitLoc 5 (.reg .D) s

/-- `BIT 5,E` (R230). -/
def execBit_5_E (s : State) : Result :=
  bitLoc 5 (.reg .E) s

/-- `BIT 5,H` (R230). -/
def execBit_5_H (s : State) : Result :=
  bitLoc 5 (.reg .H) s

/-- `BIT 5,L` (R230). -/
def execBit_5_L (s : State) : Result :=
  bitLoc 5 (.reg .L) s

/-- `BIT 5,(HL)` (R230). -/
def execBit_5_mHL (s : State) : Result :=
  bitLoc 5 (.ind .HL .none) s

/-- `BIT 5,A` (R230). -/
def execBit_5_A (s : State) : Result :=
  bitLoc 5 (.reg .A) s

/-- `BIT 6,B` (R230). -/
def execBit_6_B (s : State) : Result :=
  bitLoc 6 (.reg .B) s

/-- `BIT 6,C` (R230). -/
def execBit_6_C (s : State) : Result :=
  bitLoc 6 (.reg .C) s

/-- `BIT 6,D` (R230). -/
def execBit_6_D (s : State) : Result :=
  bitLoc 6 (.reg .D) s

/-- `BIT 6,E` (R230). -/
def execBit_6_E (s : State) : Result :=
  bitLoc 6 (.reg .E) s

/-- `BIT 6,H` (R230). -/
def execBit_6_H (s : State) : Result :=
  bitLoc 6 (.reg .H) s

/-- `BIT 6,L` (R230). -/
def execBit_6_L (s : State) : Result :=
  bitLoc 6 (.reg .L) s

/-- `BIT 6,(HL)` (R230). -/
def execBit_6_mHL (s : State) : Result :=
  bitLoc 6 (.ind .HL .none) s

/-- `BIT 6,A` (R230). -/
def execBit_6_A (s : State) : Result :=
  bitLoc 6 (.reg .A) s

/-- `BIT 7,B` (R230). -/
def execBit_7_B (s : State) : Result :=
  bitLoc 7 (.reg .B) s

/-- `BIT 7,C` (R230). -/
def execBit_7_C (s : State) : Result :=
  bitLoc 7 (.reg .C) s

/-- `BIT 7,D` (R230). -/
def execBit_7_D (s : State) : Result :=
  bitLoc 7 (.reg .D) s

/-- `BIT 7,E` (R230). -/
def execBit_7_E (s : State) : Result :=
  bitLoc 7 (.reg .E) s

/-- `BIT 7,H` (R230). -/
def execBit_7_H (s : State) : Result :=
  bitLoc 7 (.reg .H) s

/-- `BIT 7,L` (R230). -/
def execBit_7_L (s : State) : Result :=
  bitLoc 7 (.reg .L) s

/-- `BIT 7,(HL)` (R230). -/
def execBit_7_mHL (s : State) : Result :=
  bitLoc 7 (.ind .HL .none) s

/-- `BIT 7,A` (R230). -/
def execBit_7_A (s : State) : Result :=
  bitLoc 7 (.reg .A) s

/-- `RES 0,B` (R231). -/
def execRes_0_B (s : State) : Result :=
  resLoc 0 (.reg .B) s

/-- `RES 0,C` (R231). -/
def execRes_0_C (s : State) : Result :=
  resLoc 0 (.reg .C) s

/-- `RES 0,D` (R231). -/
def execRes_0_D (s : State) : Result :=
  resLoc 0 (.reg .D) s

/-- `RES 0,E` (R231). -/
def execRes_0_E (s : State) : Result :=
  resLoc 0 (.reg .E) s

/-- `RES 0,H` (R231). -/
def execRes_0_H (s : State) : Result :=
  resLoc 0 (.reg .H) s

/-- `RES 0,L` (R231). -/
def execRes_0_L (s : State) : Result :=
  resLoc 0 (.reg .L) s

/-- `RES 0,(HL)` (R231). -/
def execRes_0_mHL (s : State) : Result :=
  resLoc 0 (.ind .HL .none) s

/-- `RES 0,A` (R231). -/
def execRes_0_A (s : State) : Result :=
  resLoc 0 (.reg .A) s

/-- `RES 1,B` (R231). -/
def execRes_1_B (s : State) : Result :=
  resLoc 1 (.reg .B) s

/-- `RES 1,C` (R231). -/
def execRes_1_C (s : State) : Result :=
  resLoc 1 (.reg .C) s

/-- `RES 1,D` (R231). -/
def execRes_1_D (s : State) : Result :=
  resLoc 1 (.reg .D) s

/-- `RES 1,E` (R231). -/
def execRes_1_E (s : State) : Result :=
  resLoc 1 (.reg .E) s

/-- `RES 1,H` (R231). -/
def execRes_1_H (s : State) : Result :=
  resLoc 1 (.reg .H) s

/-- `RES 1,L` (R231). -/
def execRes_1_L (s : State) : Result :=
  resLoc 1 (.reg .L) s

/-- `RES 1,(HL)` (R231). -/
def execRes_1_mHL (s : State) : Result :=
  resLoc 1 (.ind .HL .none) s

/-- `RES 1,A` (R231). -/
def execRes_1_A (s : State) : Result :=
  resLoc 1 (.reg .A) s

/-- `RES 2,B` (R231). -/
def execRes_2_B (s : State) : Result :=
  resLoc 2 (.reg .B) s

/-- `RES 2,C` (R231). -/
def execRes_2_C (s : State) : Result :=
  resLoc 2 (.reg .C) s

/-- `RES 2,D` (R231). -/
def execRes_2_D (s : State) : Result :=
  resLoc 2 (.reg .D) s

/-- `RES 2,E` (R231). -/
def execRes_2_E (s : State) : Result :=
  resLoc 2 (.reg .E) s

/-- `RES 2,H` (R231). -/
def execRes_2_H (s : State) : Result :=
  resLoc 2 (.reg .H) s

/-- `RES 2,L` (R231). -/
def execRes_2_L (s : State) : Result :=
  resLoc 2 (.reg .L) s

/-- `RES 2,(HL)` (R231). -/
def execRes_2_mHL (s : State) : Result :=
  resLoc 2 (.ind .HL .none) s

/-- `RES 2,A` (R231). -/
def execRes_2_A (s : State) : Result :=
  resLoc 2 (.reg .A) s

/-- `RES 3,B` (R231). -/
def execRes_3_B (s : State) : Result :=
  resLoc 3 (.reg .B) s

/-- `RES 3,C` (R231). -/
def execRes_3_C (s : State) : Result :=
  resLoc 3 (.reg .C) s

/-- `RES 3,D` (R231). -/
def execRes_3_D (s : State) : Result :=
  resLoc 3 (.reg .D) s

/-- `RES 3,E` (R231). -/
def execRes_3_E (s : State) : Result :=
  resLoc 3 (.reg .E) s

/-- `RES 3,H` (R231). -/
def execRes_3_H (s : State) : Result :=
  resLoc 3 (.reg .H) s

/-- `RES 3,L` (R231). -/
def execRes_3_L (s : State) : Result :=
  resLoc 3 (.reg .L) s

/-- `RES 3,(HL)` (R231). -/
def execRes_3_mHL (s : State) : Result :=
  resLoc 3 (.ind .HL .none) s

/-- `RES 3,A` (R231). -/
def execRes_3_A (s : State) : Result :=
  resLoc 3 (.reg .A) s

/-- `RES 4,B` (R231). -/
def execRes_4_B (s : State) : Result :=
  resLoc 4 (.reg .B) s

/-- `RES 4,C` (R231). -/
def execRes_4_C (s : State) : Result :=
  resLoc 4 (.reg .C) s

/-- `RES 4,D` (R231). -/
def execRes_4_D (s : State) : Result :=
  resLoc 4 (.reg .D) s

/-- `RES 4,E` (R231). -/
def execRes_4_E (s : State) : Result :=
  resLoc 4 (.reg .E) s

/-- `RES 4,H` (R231). -/
def execRes_4_H (s : State) : Result :=
  resLoc 4 (.reg .H) s

/-- `RES 4,L` (R231). -/
def execRes_4_L (s : State) : Result :=
  resLoc 4 (.reg .L) s

/-- `RES 4,(HL)` (R231). -/
def execRes_4_mHL (s : State) : Result :=
  resLoc 4 (.ind .HL .none) s

/-- `RES 4,A` (R231). -/
def execRes_4_A (s : State) : Result :=
  resLoc 4 (.reg .A) s

/-- `RES 5,B` (R231). -/
def execRes_5_B (s : State) : Result :=
  resLoc 5 (.reg .B) s

/-- `RES 5,C` (R231). -/
def execRes_5_C (s : State) : Result :=
  resLoc 5 (.reg .C) s

/-- `RES 5,D` (R231). -/
def execRes_5_D (s : State) : Result :=
  resLoc 5 (.reg .D) s

/-- `RES 5,E` (R231). -/
def execRes_5_E (s : State) : Result :=
  resLoc 5 (.reg .E) s

/-- `RES 5,H` (R231). -/
def execRes_5_H (s : State) : Result :=
  resLoc 5 (.reg .H) s

/-- `RES 5,L` (R231). -/
def execRes_5_L (s : State) : Result :=
  resLoc 5 (.reg .L) s

/-- `RES 5,(HL)` (R231). -/
def execRes_5_mHL (s : State) : Result :=
  resLoc 5 (.ind .HL .none) s

/-- `RES 5,A` (R231). -/
def execRes_5_A (s : State) : Result :=
  resLoc 5 (.reg .A) s

/-- `RES 6,B` (R231). -/
def execRes_6_B (s : State) : Result :=
  resLoc 6 (.reg .B) s

/-- `RES 6,C` (R231). -/
def execRes_6_C (s : State) : Result :=
  resLoc 6 (.reg .C) s

/-- `RES 6,D` (R231). -/
def execRes_6_D (s : State) : Result :=
  resLoc 6 (.reg .D) s

/-- `RES 6,E` (R231). -/
def execRes_6_E (s : State) : Result :=
  resLoc 6 (.reg .E) s

/-- `RES 6,H` (R231). -/
def execRes_6_H (s : State) : Result :=
  resLoc 6 (.reg .H) s

/-- `RES 6,L` (R231). -/
def execRes_6_L (s : State) : Result :=
  resLoc 6 (.reg .L) s

/-- `RES 6,(HL)` (R231). -/
def execRes_6_mHL (s : State) : Result :=
  resLoc 6 (.ind .HL .none) s

/-- `RES 6,A` (R231). -/
def execRes_6_A (s : State) : Result :=
  resLoc 6 (.reg .A) s

/-- `RES 7,B` (R231). -/
def execRes_7_B (s : State) : Result :=
  resLoc 7 (.reg .B) s

/-- `RES 7,C` (R231). -/
def execRes_7_C (s : State) : Result :=
  resLoc 7 (.reg .C) s

/-- `RES 7,D` (R231). -/
def execRes_7_D (s : State) : Result :=
  resLoc 7 (.reg .D) s

/-- `RES 7,E` (R231). -/
def execRes_7_E (s : State) : Result :=
  resLoc 7 (.reg .E) s

/-- `RES 7,H` (R231). -/
def execRes_7_H (s : State) : Result :=
  resLoc 7 (.reg .H) s

/-- `RES 7,L` (R231). -/
def execRes_7_L (s : State) : Result :=
  resLoc 7 (.reg .L) s

/-- `RES 7,(HL)` (R231). -/
def execRes_7_mHL (s : State) : Result :=
  resLoc 7 (.ind .HL .none) s

/-- `RES 7,A` (R231). -/
def execRes_7_A (s : State) : Result :=
  resLoc 7 (.reg .A) s

/-- `SET 0,B` (R232). -/
def execSet_0_B (s : State) : Result :=
  setLoc 0 (.reg .B) s

/-- `SET 0,C` (R232). -/
def execSet_0_C (s : State) : Result :=
  setLoc 0 (.reg .C) s

/-- `SET 0,D` (R232). -/
def execSet_0_D (s : State) : Result :=
  setLoc 0 (.reg .D) s

/-- `SET 0,E` (R232). -/
def execSet_0_E (s : State) : Result :=
  setLoc 0 (.reg .E) s

/-- `SET 0,H` (R232). -/
def execSet_0_H (s : State) : Result :=
  setLoc 0 (.reg .H) s

/-- `SET 0,L` (R232). -/
def execSet_0_L (s : State) : Result :=
  setLoc 0 (.reg .L) s

/-- `SET 0,(HL)` (R232). -/
def execSet_0_mHL (s : State) : Result :=
  setLoc 0 (.ind .HL .none) s

/-- `SET 0,A` (R232). -/
def execSet_0_A (s : State) : Result :=
  setLoc 0 (.reg .A) s

/-- `SET 1,B` (R232). -/
def execSet_1_B (s : State) : Result :=
  setLoc 1 (.reg .B) s

/-- `SET 1,C` (R232). -/
def execSet_1_C (s : State) : Result :=
  setLoc 1 (.reg .C) s

/-- `SET 1,D` (R232). -/
def execSet_1_D (s : State) : Result :=
  setLoc 1 (.reg .D) s

/-- `SET 1,E` (R232). -/
def execSet_1_E (s : State) : Result :=
  setLoc 1 (.reg .E) s

/-- `SET 1,H` (R232). -/
def execSet_1_H (s : State) : Result :=
  setLoc 1 (.reg .H) s

/-- `SET 1,L` (R232). -/
def execSet_1_L (s : State) : Result :=
  setLoc 1 (.reg .L) s

/-- `SET 1,(HL)` (R232). -/
def execSet_1_mHL (s : State) : Result :=
  setLoc 1 (.ind .HL .none) s

/-- `SET 1,A` (R232). -/
def execSet_1_A (s : State) : Result :=
  setLoc 1 (.reg .A) s

/-- `SET 2,B` (R232). -/
def execSet_2_B (s : State) : Result :=
  setLoc 2 (.reg .B) s

/-- `SET 2,C` (R232). -/
def execSet_2_C (s : State) : Result :=
  setLoc 2 (.reg .C) s

/-- `SET 2,D` (R232). -/
def execSet_2_D (s : State) : Result :=
  setLoc 2 (.reg .D) s

/-- `SET 2,E` (R232). -/
def execSet_2_E (s : State) : Result :=
  setLoc 2 (.reg .E) s

/-- `SET 2,H` (R232). -/
def execSet_2_H (s : State) : Result :=
  setLoc 2 (.reg .H) s

/-- `SET 2,L` (R232). -/
def execSet_2_L (s : State) : Result :=
  setLoc 2 (.reg .L) s

/-- `SET 2,(HL)` (R232). -/
def execSet_2_mHL (s : State) : Result :=
  setLoc 2 (.ind .HL .none) s

/-- `SET 2,A` (R232). -/
def execSet_2_A (s : State) : Result :=
  setLoc 2 (.reg .A) s

/-- `SET 3,B` (R232). -/
def execSet_3_B (s : State) : Result :=
  setLoc 3 (.reg .B) s

/-- `SET 3,C` (R232). -/
def execSet_3_C (s : State) : Result :=
  setLoc 3 (.reg .C) s

/-- `SET 3,D` (R232). -/
def execSet_3_D (s : State) : Result :=
  setLoc 3 (.reg .D) s

/-- `SET 3,E` (R232). -/
def execSet_3_E (s : State) : Result :=
  setLoc 3 (.reg .E) s

/-- `SET 3,H` (R232). -/
def execSet_3_H (s : State) : Result :=
  setLoc 3 (.reg .H) s

/-- `SET 3,L` (R232). -/
def execSet_3_L (s : State) : Result :=
  setLoc 3 (.reg .L) s

/-- `SET 3,(HL)` (R232). -/
def execSet_3_mHL (s : State) : Result :=
  setLoc 3 (.ind .HL .none) s

/-- `SET 3,A` (R232). -/
def execSet_3_A (s : State) : Result :=
  setLoc 3 (.reg .A) s

/-- `SET 4,B` (R232). -/
def execSet_4_B (s : State) : Result :=
  setLoc 4 (.reg .B) s

/-- `SET 4,C` (R232). -/
def execSet_4_C (s : State) : Result :=
  setLoc 4 (.reg .C) s

/-- `SET 4,D` (R232). -/
def execSet_4_D (s : State) : Result :=
  setLoc 4 (.reg .D) s

/-- `SET 4,E` (R232). -/
def execSet_4_E (s : State) : Result :=
  setLoc 4 (.reg .E) s

/-- `SET 4,H` (R232). -/
def execSet_4_H (s : State) : Result :=
  setLoc 4 (.reg .H) s

/-- `SET 4,L` (R232). -/
def execSet_4_L (s : State) : Result :=
  setLoc 4 (.reg .L) s

/-- `SET 4,(HL)` (R232). -/
def execSet_4_mHL (s : State) : Result :=
  setLoc 4 (.ind .HL .none) s

/-- `SET 4,A` (R232). -/
def execSet_4_A (s : State) : Result :=
  setLoc 4 (.reg .A) s

/-- `SET 5,B` (R232). -/
def execSet_5_B (s : State) : Result :=
  setLoc 5 (.reg .B) s

/-- `SET 5,C` (R232). -/
def execSet_5_C (s : State) : Result :=
  setLoc 5 (.reg .C) s

/-- `SET 5,D` (R232). -/
def execSet_5_D (s : State) : Result :=
  setLoc 5 (.reg .D) s

/-- `SET 5,E` (R232). -/
def execSet_5_E (s : State) : Result :=
  setLoc 5 (.reg .E) s

/-- `SET 5,H` (R232). -/
def execSet_5_H (s : State) : Result :=
  setLoc 5 (.reg .H) s

/-- `SET 5,L` (R232). -/
def execSet_5_L (s : State) : Result :=
  setLoc 5 (.reg .L) s

/-- `SET 5,(HL)` (R232). -/
def execSet_5_mHL (s : State) : Result :=
  setLoc 5 (.ind .HL .none) s

/-- `SET 5,A` (R232). -/
def execSet_5_A (s : State) : Result :=
  setLoc 5 (.reg .A) s

/-- `SET 6,B` (R232). -/
def execSet_6_B (s : State) : Result :=
  setLoc 6 (.reg .B) s

/-- `SET 6,C` (R232). -/
def execSet_6_C (s : State) : Result :=
  setLoc 6 (.reg .C) s

/-- `SET 6,D` (R232). -/
def execSet_6_D (s : State) : Result :=
  setLoc 6 (.reg .D) s

/-- `SET 6,E` (R232). -/
def execSet_6_E (s : State) : Result :=
  setLoc 6 (.reg .E) s

/-- `SET 6,H` (R232). -/
def execSet_6_H (s : State) : Result :=
  setLoc 6 (.reg .H) s

/-- `SET 6,L` (R232). -/
def execSet_6_L (s : State) : Result :=
  setLoc 6 (.reg .L) s

/-- `SET 6,(HL)` (R232). -/
def execSet_6_mHL (s : State) : Result :=
  setLoc 6 (.ind .HL .none) s

/-- `SET 6,A` (R232). -/
def execSet_6_A (s : State) : Result :=
  setLoc 6 (.reg .A) s

/-- `SET 7,B` (R232). -/
def execSet_7_B (s : State) : Result :=
  setLoc 7 (.reg .B) s

/-- `SET 7,C` (R232). -/
def execSet_7_C (s : State) : Result :=
  setLoc 7 (.reg .C) s

/-- `SET 7,D` (R232). -/
def execSet_7_D (s : State) : Result :=
  setLoc 7 (.reg .D) s

/-- `SET 7,E` (R232). -/
def execSet_7_E (s : State) : Result :=
  setLoc 7 (.reg .E) s

/-- `SET 7,H` (R232). -/
def execSet_7_H (s : State) : Result :=
  setLoc 7 (.reg .H) s

/-- `SET 7,L` (R232). -/
def execSet_7_L (s : State) : Result :=
  setLoc 7 (.reg .L) s

/-- `SET 7,(HL)` (R232). -/
def execSet_7_mHL (s : State) : Result :=
  setLoc 7 (.ind .HL .none) s

/-- `SET 7,A` (R232). -/
def execSet_7_A (s : State) : Result :=
  setLoc 7 (.reg .A) s

end Sys2Proof.Machine
end

