-- ==== Sys2Proof/Machine/Control.lean ====
section
/-! DEFINITION. Control transfer (46_control.md). On entry `s.pc` is the address of the following instruction (R20). -/

namespace Sys2Proof.Machine

/-- `pc <- target` (R240, R242). -/
def jump (target : Word) (s : State) : Result := .next { s with pc := target }

/-- A relative jump (R243). -/
def jumpRel (e : Byte) (s : State) : Result := jump (Src16.load (.pcPlus e) s) s

/-- A call: the address of the following instruction is pushed, and PC set (R245, R253). -/
def call (target : Word) (s : State) : Result := andThen (pushWord s.pc s) (jump target)

/-- A return: PC is popped (R250). -/
def ret (s : State) : Result := jump s.topWord s.dropWord

/-- A return that sets `ime` (R252). -/
def retEnable (s : State) : Result := andThen (ret s) (fun t => .next { t with ime := true })

/-- A conditional instruction does nothing where its condition is false (R241, R244, R246, R251). -/
def whenCond (cc : Cond) (k : State → Result) (s : State) : Result := if s.cond cc then k s else .next s

/-- `JP nn` (R240). -/
def execJp_nn (nn : Word) (s : State) : Result :=
  jump nn s

/-- `JP NZ,nn` (R241). -/
def execJp_NZ_nn (nn : Word) (s : State) : Result :=
  whenCond .NZ (jump nn) s

/-- `JP Z,nn` (R241). -/
def execJp_Z_nn (nn : Word) (s : State) : Result :=
  whenCond .Z (jump nn) s

/-- `JP NC,nn` (R241). -/
def execJp_NC_nn (nn : Word) (s : State) : Result :=
  whenCond .NC (jump nn) s

/-- `JP C,nn` (R241). -/
def execJp_C_nn (nn : Word) (s : State) : Result :=
  whenCond .C (jump nn) s

/-- `JP HL` (R242). -/
def execJp_HL (s : State) : Result :=
  jump (s.reg16 .HL) s

/-- `JR e` (R243). -/
def execJr_e (e : Byte) (s : State) : Result :=
  jumpRel e s

/-- `JR NZ,e` (R244). -/
def execJr_NZ_e (e : Byte) (s : State) : Result :=
  whenCond .NZ (jumpRel e) s

/-- `JR Z,e` (R244). -/
def execJr_Z_e (e : Byte) (s : State) : Result :=
  whenCond .Z (jumpRel e) s

/-- `JR NC,e` (R244). -/
def execJr_NC_e (e : Byte) (s : State) : Result :=
  whenCond .NC (jumpRel e) s

/-- `JR C,e` (R244). -/
def execJr_C_e (e : Byte) (s : State) : Result :=
  whenCond .C (jumpRel e) s

/-- `CALL nn` (R245). -/
def execCall_nn (nn : Word) (s : State) : Result :=
  call nn s

/-- `CALL NZ,nn` (R246). -/
def execCall_NZ_nn (nn : Word) (s : State) : Result :=
  whenCond .NZ (call nn) s

/-- `CALL Z,nn` (R246). -/
def execCall_Z_nn (nn : Word) (s : State) : Result :=
  whenCond .Z (call nn) s

/-- `CALL NC,nn` (R246). -/
def execCall_NC_nn (nn : Word) (s : State) : Result :=
  whenCond .NC (call nn) s

/-- `CALL C,nn` (R246). -/
def execCall_C_nn (nn : Word) (s : State) : Result :=
  whenCond .C (call nn) s

/-- `RET` (R250). -/
def execRet (s : State) : Result :=
  ret s

/-- `RET NZ` (R251). -/
def execRet_NZ (s : State) : Result :=
  whenCond .NZ ret s

/-- `RET Z` (R251). -/
def execRet_Z (s : State) : Result :=
  whenCond .Z ret s

/-- `RET NC` (R251). -/
def execRet_NC (s : State) : Result :=
  whenCond .NC ret s

/-- `RET C` (R251). -/
def execRet_C (s : State) : Result :=
  whenCond .C ret s

/-- `RETI` (R252). -/
def execReti (s : State) : Result :=
  retEnable s

/-- `RST 00H` (R253). -/
def execRst_00 (s : State) : Result :=
  call 0 s

/-- `RST 08H` (R253). -/
def execRst_08 (s : State) : Result :=
  call 8 s

/-- `RST 10H` (R253). -/
def execRst_10 (s : State) : Result :=
  call 16 s

/-- `RST 18H` (R253). -/
def execRst_18 (s : State) : Result :=
  call 24 s

/-- `RST 20H` (R253). -/
def execRst_20 (s : State) : Result :=
  call 32 s

/-- `RST 28H` (R253). -/
def execRst_28 (s : State) : Result :=
  call 40 s

/-- `RST 30H` (R253). -/
def execRst_30 (s : State) : Result :=
  call 48 s

/-- `RST 38H` (R253). -/
def execRst_38 (s : State) : Result :=
  call 56 s

end Sys2Proof.Machine
end

