-- ==== Sys2Proof/Machine/Load16.lean ====
section
/-! DEFINITION. 16-bit loads and the stack (41_load16_stack.md). -/

namespace Sys2Proof.Machine

/-- The 16-bit load. -/
def ld16 (dst : Dst16) (src : Src16) (s : State) : Result := dst.store (src.load s) s

/-- HL becomes SP plus the offset, with its flags (R153). -/
def ldHLSPe (e : Byte) (s : State) : Result :=
  .next ((s.setReg16 .HL (Src16.load (.spPlus e) s)).setFlags false false (addOffset s.sp e).h (addOffset s.sp e).c)

/-- Pushes a pair (R154). -/
def push16 (rr : Reg16) (s : State) : Result := pushWord (s.reg16 rr) s

/-- Pops a pair (R155). -/
def pop16 (rr : Reg16) (s : State) : Result := .next (s.dropWord.setReg16 rr s.topWord)

/-- `LD BC,nn` (R150). -/
def execLd_BC_nn (nn : Word) (s : State) : Result :=
  ld16 (.reg .BC) (.imm nn) s

/-- `LD DE,nn` (R150). -/
def execLd_DE_nn (nn : Word) (s : State) : Result :=
  ld16 (.reg .DE) (.imm nn) s

/-- `LD HL,nn` (R150). -/
def execLd_HL_nn (nn : Word) (s : State) : Result :=
  ld16 (.reg .HL) (.imm nn) s

/-- `LD SP,nn` (R150). -/
def execLd_SP_nn (nn : Word) (s : State) : Result :=
  ld16 (.reg .SP) (.imm nn) s

/-- `LD (nn),SP` (R151). -/
def execLd_mnn_SP (nn : Word) (s : State) : Result :=
  ld16 (.abs nn) (.reg .SP) s

/-- `LD SP,HL` (R152). -/
def execLd_SP_HL (s : State) : Result :=
  ld16 (.reg .SP) (.reg .HL) s

/-- `LD HL,SP+e` (R153). -/
def execLd_HL_SPe (e : Byte) (s : State) : Result :=
  ldHLSPe e s

/-- `PUSH BC` (R154). -/
def execPush_BC (s : State) : Result :=
  push16 .BC s

/-- `PUSH DE` (R154). -/
def execPush_DE (s : State) : Result :=
  push16 .DE s

/-- `PUSH HL` (R154). -/
def execPush_HL (s : State) : Result :=
  push16 .HL s

/-- `PUSH AF` (R154). -/
def execPush_AF (s : State) : Result :=
  push16 .AF s

/-- `POP BC` (R155). -/
def execPop_BC (s : State) : Result :=
  pop16 .BC s

/-- `POP DE` (R155). -/
def execPop_DE (s : State) : Result :=
  pop16 .DE s

/-- `POP HL` (R155). -/
def execPop_HL (s : State) : Result :=
  pop16 .HL s

/-- `POP AF` (R155). -/
def execPop_AF (s : State) : Result :=
  pop16 .AF s

end Sys2Proof.Machine
end

