-- ==== Sys2Proof/Machine/Load8.lean ====
section
/-! DEFINITION. 8-bit loads (40_load8.md): destination.store(source.load()). -/

namespace Sys2Proof.Machine

/-- The 8-bit load: the source is read, its post-access change made, and the value stored. -/
def ld8 (dst : Loc8) (src : Src8) (s : State) : Result := dst.store (src.load s) (src.after s)

/-- `LD B,B` (R120). -/
def execLd_B_B (s : State) : Result :=
  ld8 (.reg .B) (.loc (.reg .B)) s

/-- `LD B,C` (R120). -/
def execLd_B_C (s : State) : Result :=
  ld8 (.reg .B) (.loc (.reg .C)) s

/-- `LD B,D` (R120). -/
def execLd_B_D (s : State) : Result :=
  ld8 (.reg .B) (.loc (.reg .D)) s

/-- `LD B,E` (R120). -/
def execLd_B_E (s : State) : Result :=
  ld8 (.reg .B) (.loc (.reg .E)) s

/-- `LD B,H` (R120). -/
def execLd_B_H (s : State) : Result :=
  ld8 (.reg .B) (.loc (.reg .H)) s

/-- `LD B,L` (R120). -/
def execLd_B_L (s : State) : Result :=
  ld8 (.reg .B) (.loc (.reg .L)) s

/-- `LD B,A` (R120). -/
def execLd_B_A (s : State) : Result :=
  ld8 (.reg .B) (.loc (.reg .A)) s

/-- `LD C,B` (R120). -/
def execLd_C_B (s : State) : Result :=
  ld8 (.reg .C) (.loc (.reg .B)) s

/-- `LD C,C` (R120). -/
def execLd_C_C (s : State) : Result :=
  ld8 (.reg .C) (.loc (.reg .C)) s

/-- `LD C,D` (R120). -/
def execLd_C_D (s : State) : Result :=
  ld8 (.reg .C) (.loc (.reg .D)) s

/-- `LD C,E` (R120). -/
def execLd_C_E (s : State) : Result :=
  ld8 (.reg .C) (.loc (.reg .E)) s

/-- `LD C,H` (R120). -/
def execLd_C_H (s : State) : Result :=
  ld8 (.reg .C) (.loc (.reg .H)) s

/-- `LD C,L` (R120). -/
def execLd_C_L (s : State) : Result :=
  ld8 (.reg .C) (.loc (.reg .L)) s

/-- `LD C,A` (R120). -/
def execLd_C_A (s : State) : Result :=
  ld8 (.reg .C) (.loc (.reg .A)) s

/-- `LD D,B` (R120). -/
def execLd_D_B (s : State) : Result :=
  ld8 (.reg .D) (.loc (.reg .B)) s

/-- `LD D,C` (R120). -/
def execLd_D_C (s : State) : Result :=
  ld8 (.reg .D) (.loc (.reg .C)) s

/-- `LD D,D` (R120). -/
def execLd_D_D (s : State) : Result :=
  ld8 (.reg .D) (.loc (.reg .D)) s

/-- `LD D,E` (R120). -/
def execLd_D_E (s : State) : Result :=
  ld8 (.reg .D) (.loc (.reg .E)) s

/-- `LD D,H` (R120). -/
def execLd_D_H (s : State) : Result :=
  ld8 (.reg .D) (.loc (.reg .H)) s

/-- `LD D,L` (R120). -/
def execLd_D_L (s : State) : Result :=
  ld8 (.reg .D) (.loc (.reg .L)) s

/-- `LD D,A` (R120). -/
def execLd_D_A (s : State) : Result :=
  ld8 (.reg .D) (.loc (.reg .A)) s

/-- `LD E,B` (R120). -/
def execLd_E_B (s : State) : Result :=
  ld8 (.reg .E) (.loc (.reg .B)) s

/-- `LD E,C` (R120). -/
def execLd_E_C (s : State) : Result :=
  ld8 (.reg .E) (.loc (.reg .C)) s

/-- `LD E,D` (R120). -/
def execLd_E_D (s : State) : Result :=
  ld8 (.reg .E) (.loc (.reg .D)) s

/-- `LD E,E` (R120). -/
def execLd_E_E (s : State) : Result :=
  ld8 (.reg .E) (.loc (.reg .E)) s

/-- `LD E,H` (R120). -/
def execLd_E_H (s : State) : Result :=
  ld8 (.reg .E) (.loc (.reg .H)) s

/-- `LD E,L` (R120). -/
def execLd_E_L (s : State) : Result :=
  ld8 (.reg .E) (.loc (.reg .L)) s

/-- `LD E,A` (R120). -/
def execLd_E_A (s : State) : Result :=
  ld8 (.reg .E) (.loc (.reg .A)) s

/-- `LD H,B` (R120). -/
def execLd_H_B (s : State) : Result :=
  ld8 (.reg .H) (.loc (.reg .B)) s

/-- `LD H,C` (R120). -/
def execLd_H_C (s : State) : Result :=
  ld8 (.reg .H) (.loc (.reg .C)) s

/-- `LD H,D` (R120). -/
def execLd_H_D (s : State) : Result :=
  ld8 (.reg .H) (.loc (.reg .D)) s

/-- `LD H,E` (R120). -/
def execLd_H_E (s : State) : Result :=
  ld8 (.reg .H) (.loc (.reg .E)) s

/-- `LD H,H` (R120). -/
def execLd_H_H (s : State) : Result :=
  ld8 (.reg .H) (.loc (.reg .H)) s

/-- `LD H,L` (R120). -/
def execLd_H_L (s : State) : Result :=
  ld8 (.reg .H) (.loc (.reg .L)) s

/-- `LD H,A` (R120). -/
def execLd_H_A (s : State) : Result :=
  ld8 (.reg .H) (.loc (.reg .A)) s

/-- `LD L,B` (R120). -/
def execLd_L_B (s : State) : Result :=
  ld8 (.reg .L) (.loc (.reg .B)) s

/-- `LD L,C` (R120). -/
def execLd_L_C (s : State) : Result :=
  ld8 (.reg .L) (.loc (.reg .C)) s

/-- `LD L,D` (R120). -/
def execLd_L_D (s : State) : Result :=
  ld8 (.reg .L) (.loc (.reg .D)) s

/-- `LD L,E` (R120). -/
def execLd_L_E (s : State) : Result :=
  ld8 (.reg .L) (.loc (.reg .E)) s

/-- `LD L,H` (R120). -/
def execLd_L_H (s : State) : Result :=
  ld8 (.reg .L) (.loc (.reg .H)) s

/-- `LD L,L` (R120). -/
def execLd_L_L (s : State) : Result :=
  ld8 (.reg .L) (.loc (.reg .L)) s

/-- `LD L,A` (R120). -/
def execLd_L_A (s : State) : Result :=
  ld8 (.reg .L) (.loc (.reg .A)) s

/-- `LD A,B` (R120). -/
def execLd_A_B (s : State) : Result :=
  ld8 (.reg .A) (.loc (.reg .B)) s

/-- `LD A,C` (R120). -/
def execLd_A_C (s : State) : Result :=
  ld8 (.reg .A) (.loc (.reg .C)) s

/-- `LD A,D` (R120). -/
def execLd_A_D (s : State) : Result :=
  ld8 (.reg .A) (.loc (.reg .D)) s

/-- `LD A,E` (R120). -/
def execLd_A_E (s : State) : Result :=
  ld8 (.reg .A) (.loc (.reg .E)) s

/-- `LD A,H` (R120). -/
def execLd_A_H (s : State) : Result :=
  ld8 (.reg .A) (.loc (.reg .H)) s

/-- `LD A,L` (R120). -/
def execLd_A_L (s : State) : Result :=
  ld8 (.reg .A) (.loc (.reg .L)) s

/-- `LD A,A` (R120). -/
def execLd_A_A (s : State) : Result :=
  ld8 (.reg .A) (.loc (.reg .A)) s

/-- `LD B,n` (R121). -/
def execLd_B_n (n : Byte) (s : State) : Result :=
  ld8 (.reg .B) (.imm n) s

/-- `LD C,n` (R121). -/
def execLd_C_n (n : Byte) (s : State) : Result :=
  ld8 (.reg .C) (.imm n) s

/-- `LD D,n` (R121). -/
def execLd_D_n (n : Byte) (s : State) : Result :=
  ld8 (.reg .D) (.imm n) s

/-- `LD E,n` (R121). -/
def execLd_E_n (n : Byte) (s : State) : Result :=
  ld8 (.reg .E) (.imm n) s

/-- `LD H,n` (R121). -/
def execLd_H_n (n : Byte) (s : State) : Result :=
  ld8 (.reg .H) (.imm n) s

/-- `LD L,n` (R121). -/
def execLd_L_n (n : Byte) (s : State) : Result :=
  ld8 (.reg .L) (.imm n) s

/-- `LD A,n` (R121). -/
def execLd_A_n (n : Byte) (s : State) : Result :=
  ld8 (.reg .A) (.imm n) s

/-- `LD B,(HL)` (R122). -/
def execLd_B_mHL (s : State) : Result :=
  ld8 (.reg .B) (.loc (.ind .HL .none)) s

/-- `LD C,(HL)` (R122). -/
def execLd_C_mHL (s : State) : Result :=
  ld8 (.reg .C) (.loc (.ind .HL .none)) s

/-- `LD D,(HL)` (R122). -/
def execLd_D_mHL (s : State) : Result :=
  ld8 (.reg .D) (.loc (.ind .HL .none)) s

/-- `LD E,(HL)` (R122). -/
def execLd_E_mHL (s : State) : Result :=
  ld8 (.reg .E) (.loc (.ind .HL .none)) s

/-- `LD H,(HL)` (R122). -/
def execLd_H_mHL (s : State) : Result :=
  ld8 (.reg .H) (.loc (.ind .HL .none)) s

/-- `LD L,(HL)` (R122). -/
def execLd_L_mHL (s : State) : Result :=
  ld8 (.reg .L) (.loc (.ind .HL .none)) s

/-- `LD A,(HL)` (R122). -/
def execLd_A_mHL (s : State) : Result :=
  ld8 (.reg .A) (.loc (.ind .HL .none)) s

/-- `LD (HL),B` (R123). -/
def execLd_mHL_B (s : State) : Result :=
  ld8 (.ind .HL .none) (.loc (.reg .B)) s

/-- `LD (HL),C` (R123). -/
def execLd_mHL_C (s : State) : Result :=
  ld8 (.ind .HL .none) (.loc (.reg .C)) s

/-- `LD (HL),D` (R123). -/
def execLd_mHL_D (s : State) : Result :=
  ld8 (.ind .HL .none) (.loc (.reg .D)) s

/-- `LD (HL),E` (R123). -/
def execLd_mHL_E (s : State) : Result :=
  ld8 (.ind .HL .none) (.loc (.reg .E)) s

/-- `LD (HL),H` (R123). -/
def execLd_mHL_H (s : State) : Result :=
  ld8 (.ind .HL .none) (.loc (.reg .H)) s

/-- `LD (HL),L` (R123). -/
def execLd_mHL_L (s : State) : Result :=
  ld8 (.ind .HL .none) (.loc (.reg .L)) s

/-- `LD (HL),A` (R123). -/
def execLd_mHL_A (s : State) : Result :=
  ld8 (.ind .HL .none) (.loc (.reg .A)) s

/-- `LD (HL),n` (R124). -/
def execLd_mHL_n (n : Byte) (s : State) : Result :=
  ld8 (.ind .HL .none) (.imm n) s

/-- `LD A,(BC)` (R125). -/
def execLd_A_mBC (s : State) : Result :=
  ld8 (.reg .A) (.loc (.ind .BC .none)) s

/-- `LD A,(DE)` (R126). -/
def execLd_A_mDE (s : State) : Result :=
  ld8 (.reg .A) (.loc (.ind .DE .none)) s

/-- `LD (BC),A` (R127). -/
def execLd_mBC_A (s : State) : Result :=
  ld8 (.ind .BC .none) (.loc (.reg .A)) s

/-- `LD (DE),A` (R128). -/
def execLd_mDE_A (s : State) : Result :=
  ld8 (.ind .DE .none) (.loc (.reg .A)) s

/-- `LD A,(nn)` (R129). -/
def execLd_A_mnn (nn : Word) (s : State) : Result :=
  ld8 (.reg .A) (.loc (.abs nn)) s

/-- `LD (nn),A` (R130). -/
def execLd_mnn_A (nn : Word) (s : State) : Result :=
  ld8 (.abs nn) (.loc (.reg .A)) s

/-- `LDH A,(n)` (R131). -/
def execLdh_A_mn (n : Byte) (s : State) : Result :=
  ld8 (.reg .A) (.loc (.highImm n)) s

/-- `LDH (n),A` (R132). -/
def execLdh_mn_A (n : Byte) (s : State) : Result :=
  ld8 (.highImm n) (.loc (.reg .A)) s

/-- `LD A,(C)` (R133). -/
def execLd_A_mC (s : State) : Result :=
  ld8 (.reg .A) (.loc .highC) s

/-- `LD (C),A` (R134). -/
def execLd_mC_A (s : State) : Result :=
  ld8 .highC (.loc (.reg .A)) s

/-- `LD (HL+),A` (R135). -/
def execLd_mHLi_A (s : State) : Result :=
  ld8 (.ind .HL .inc) (.loc (.reg .A)) s

/-- `LD A,(HL+)` (R136). -/
def execLd_A_mHLi (s : State) : Result :=
  ld8 (.reg .A) (.loc (.ind .HL .inc)) s

/-- `LD (HL-),A` (R137). -/
def execLd_mHLd_A (s : State) : Result :=
  ld8 (.ind .HL .dec) (.loc (.reg .A)) s

/-- `LD A,(HL-)` (R138). -/
def execLd_A_mHLd (s : State) : Result :=
  ld8 (.reg .A) (.loc (.ind .HL .dec)) s

end Sys2Proof.Machine
end

