-- ==== Sys2Proof/Machine/Rotate.lean ====
section
/-! DEFINITION. Rotates, shifts and swap (44_rotate_shift.md). -/

namespace Sys2Proof.Machine

/-- A one-byte accumulator rotate: as the prefixed form on A, with Z cleared (R210 to R213). -/
def rotAcc (op : RotOp) (s : State) : Result :=
  let o := rotOut op s.a s.flagC
  .next ((s.setReg8 .A o.1).setFlags false false false o.2)

/-- A prefixed rotate or shift (R209): the byte is written back through the same operand. -/
def rotLoc (op : RotOp) (l : Loc8) (s : State) : Result :=
  let o := rotOut op (l.load s) s.flagC
  andThen (l.store o.1 s) (fun t => .next (t.setFlags (o.1 == 0#8) false false o.2))

/-- `RLCA` (R210). -/
def execRlca (s : State) : Result :=
  rotAcc .RLC s

/-- `RRCA` (R211). -/
def execRrca (s : State) : Result :=
  rotAcc .RRC s

/-- `RLA` (R212). -/
def execRla (s : State) : Result :=
  rotAcc .RL s

/-- `RRA` (R213). -/
def execRra (s : State) : Result :=
  rotAcc .RR s

/-- `RLC B` (R214). -/
def execRlc_B (s : State) : Result :=
  rotLoc .RLC (.reg .B) s

/-- `RLC C` (R214). -/
def execRlc_C (s : State) : Result :=
  rotLoc .RLC (.reg .C) s

/-- `RLC D` (R214). -/
def execRlc_D (s : State) : Result :=
  rotLoc .RLC (.reg .D) s

/-- `RLC E` (R214). -/
def execRlc_E (s : State) : Result :=
  rotLoc .RLC (.reg .E) s

/-- `RLC H` (R214). -/
def execRlc_H (s : State) : Result :=
  rotLoc .RLC (.reg .H) s

/-- `RLC L` (R214). -/
def execRlc_L (s : State) : Result :=
  rotLoc .RLC (.reg .L) s

/-- `RLC (HL)` (R214). -/
def execRlc_mHL (s : State) : Result :=
  rotLoc .RLC (.ind .HL .none) s

/-- `RLC A` (R214). -/
def execRlc_A (s : State) : Result :=
  rotLoc .RLC (.reg .A) s

/-- `RRC B` (R215). -/
def execRrc_B (s : State) : Result :=
  rotLoc .RRC (.reg .B) s

/-- `RRC C` (R215). -/
def execRrc_C (s : State) : Result :=
  rotLoc .RRC (.reg .C) s

/-- `RRC D` (R215). -/
def execRrc_D (s : State) : Result :=
  rotLoc .RRC (.reg .D) s

/-- `RRC E` (R215). -/
def execRrc_E (s : State) : Result :=
  rotLoc .RRC (.reg .E) s

/-- `RRC H` (R215). -/
def execRrc_H (s : State) : Result :=
  rotLoc .RRC (.reg .H) s

/-- `RRC L` (R215). -/
def execRrc_L (s : State) : Result :=
  rotLoc .RRC (.reg .L) s

/-- `RRC (HL)` (R215). -/
def execRrc_mHL (s : State) : Result :=
  rotLoc .RRC (.ind .HL .none) s

/-- `RRC A` (R215). -/
def execRrc_A (s : State) : Result :=
  rotLoc .RRC (.reg .A) s

/-- `RL B` (R216). -/
def execRl_B (s : State) : Result :=
  rotLoc .RL (.reg .B) s

/-- `RL C` (R216). -/
def execRl_C (s : State) : Result :=
  rotLoc .RL (.reg .C) s

/-- `RL D` (R216). -/
def execRl_D (s : State) : Result :=
  rotLoc .RL (.reg .D) s

/-- `RL E` (R216). -/
def execRl_E (s : State) : Result :=
  rotLoc .RL (.reg .E) s

/-- `RL H` (R216). -/
def execRl_H (s : State) : Result :=
  rotLoc .RL (.reg .H) s

/-- `RL L` (R216). -/
def execRl_L (s : State) : Result :=
  rotLoc .RL (.reg .L) s

/-- `RL (HL)` (R216). -/
def execRl_mHL (s : State) : Result :=
  rotLoc .RL (.ind .HL .none) s

/-- `RL A` (R216). -/
def execRl_A (s : State) : Result :=
  rotLoc .RL (.reg .A) s

/-- `RR B` (R217). -/
def execRr_B (s : State) : Result :=
  rotLoc .RR (.reg .B) s

/-- `RR C` (R217). -/
def execRr_C (s : State) : Result :=
  rotLoc .RR (.reg .C) s

/-- `RR D` (R217). -/
def execRr_D (s : State) : Result :=
  rotLoc .RR (.reg .D) s

/-- `RR E` (R217). -/
def execRr_E (s : State) : Result :=
  rotLoc .RR (.reg .E) s

/-- `RR H` (R217). -/
def execRr_H (s : State) : Result :=
  rotLoc .RR (.reg .H) s

/-- `RR L` (R217). -/
def execRr_L (s : State) : Result :=
  rotLoc .RR (.reg .L) s

/-- `RR (HL)` (R217). -/
def execRr_mHL (s : State) : Result :=
  rotLoc .RR (.ind .HL .none) s

/-- `RR A` (R217). -/
def execRr_A (s : State) : Result :=
  rotLoc .RR (.reg .A) s

/-- `SLA B` (R218). -/
def execSla_B (s : State) : Result :=
  rotLoc .SLA (.reg .B) s

/-- `SLA C` (R218). -/
def execSla_C (s : State) : Result :=
  rotLoc .SLA (.reg .C) s

/-- `SLA D` (R218). -/
def execSla_D (s : State) : Result :=
  rotLoc .SLA (.reg .D) s

/-- `SLA E` (R218). -/
def execSla_E (s : State) : Result :=
  rotLoc .SLA (.reg .E) s

/-- `SLA H` (R218). -/
def execSla_H (s : State) : Result :=
  rotLoc .SLA (.reg .H) s

/-- `SLA L` (R218). -/
def execSla_L (s : State) : Result :=
  rotLoc .SLA (.reg .L) s

/-- `SLA (HL)` (R218). -/
def execSla_mHL (s : State) : Result :=
  rotLoc .SLA (.ind .HL .none) s

/-- `SLA A` (R218). -/
def execSla_A (s : State) : Result :=
  rotLoc .SLA (.reg .A) s

/-- `SRA B` (R219). -/
def execSra_B (s : State) : Result :=
  rotLoc .SRA (.reg .B) s

/-- `SRA C` (R219). -/
def execSra_C (s : State) : Result :=
  rotLoc .SRA (.reg .C) s

/-- `SRA D` (R219). -/
def execSra_D (s : State) : Result :=
  rotLoc .SRA (.reg .D) s

/-- `SRA E` (R219). -/
def execSra_E (s : State) : Result :=
  rotLoc .SRA (.reg .E) s

/-- `SRA H` (R219). -/
def execSra_H (s : State) : Result :=
  rotLoc .SRA (.reg .H) s

/-- `SRA L` (R219). -/
def execSra_L (s : State) : Result :=
  rotLoc .SRA (.reg .L) s

/-- `SRA (HL)` (R219). -/
def execSra_mHL (s : State) : Result :=
  rotLoc .SRA (.ind .HL .none) s

/-- `SRA A` (R219). -/
def execSra_A (s : State) : Result :=
  rotLoc .SRA (.reg .A) s

/-- `SWAP B` (R220). -/
def execSwap_B (s : State) : Result :=
  rotLoc .SWAP (.reg .B) s

/-- `SWAP C` (R220). -/
def execSwap_C (s : State) : Result :=
  rotLoc .SWAP (.reg .C) s

/-- `SWAP D` (R220). -/
def execSwap_D (s : State) : Result :=
  rotLoc .SWAP (.reg .D) s

/-- `SWAP E` (R220). -/
def execSwap_E (s : State) : Result :=
  rotLoc .SWAP (.reg .E) s

/-- `SWAP H` (R220). -/
def execSwap_H (s : State) : Result :=
  rotLoc .SWAP (.reg .H) s

/-- `SWAP L` (R220). -/
def execSwap_L (s : State) : Result :=
  rotLoc .SWAP (.reg .L) s

/-- `SWAP (HL)` (R220). -/
def execSwap_mHL (s : State) : Result :=
  rotLoc .SWAP (.ind .HL .none) s

/-- `SWAP A` (R220). -/
def execSwap_A (s : State) : Result :=
  rotLoc .SWAP (.reg .A) s

/-- `SRL B` (R221). -/
def execSrl_B (s : State) : Result :=
  rotLoc .SRL (.reg .B) s

/-- `SRL C` (R221). -/
def execSrl_C (s : State) : Result :=
  rotLoc .SRL (.reg .C) s

/-- `SRL D` (R221). -/
def execSrl_D (s : State) : Result :=
  rotLoc .SRL (.reg .D) s

/-- `SRL E` (R221). -/
def execSrl_E (s : State) : Result :=
  rotLoc .SRL (.reg .E) s

/-- `SRL H` (R221). -/
def execSrl_H (s : State) : Result :=
  rotLoc .SRL (.reg .H) s

/-- `SRL L` (R221). -/
def execSrl_L (s : State) : Result :=
  rotLoc .SRL (.reg .L) s

/-- `SRL (HL)` (R221). -/
def execSrl_mHL (s : State) : Result :=
  rotLoc .SRL (.ind .HL .none) s

/-- `SRL A` (R221). -/
def execSrl_A (s : State) : Result :=
  rotLoc .SRL (.reg .A) s

end Sys2Proof.Machine
end

