-- ==== Sys2Proof/Machine/System.lean ====
section
/-! DEFINITION. System instructions (47_system.md). -/

namespace Sys2Proof.Machine

/-- Enters a low-power run state (R261, R262, R295). -/
def enterLowPower (k : LowPowerKind) (s : State) : Result := .next { s with run := .lowPower k }

/-- `STOP`: its operand byte has no effect (R262). -/
def stopWith (_n : Byte) (s : State) : Result := enterLowPower .stop s

/-- Writes the interrupt master enable, at once (R263, R264). -/
def setIme (v : Bool) (s : State) : Result := .next { s with ime := v }

/-- `NOP` (R260). -/
def execNop (s : State) : Result :=
  .next s

/-- `HALT` (R261). -/
def execHalt (s : State) : Result :=
  enterLowPower .halt s

/-- `STOP` (R262). -/
def execStop (n : Byte) (s : State) : Result :=
  stopWith n s

/-- `DI` (R263). -/
def execDi (s : State) : Result :=
  setIme false s

/-- `EI` (R264). -/
def execEi (s : State) : Result :=
  setIme true s

end Sys2Proof.Machine
end

