-- ==== Sys2Proof/Machine/Undefined.lean ====
section
/-! DEFINITION. The rows of the eleven undefined bytes (R90): each takes the decode failure of R270. -/

namespace Sys2Proof.Machine

/-- `ILLEGAL_D3` (R270). -/
def execIllegal_D3 (s : State) : Result :=
  raiseDecodeFault 0xD3 s

/-- `ILLEGAL_DB` (R270). -/
def execIllegal_DB (s : State) : Result :=
  raiseDecodeFault 0xDB s

/-- `ILLEGAL_DD` (R270). -/
def execIllegal_DD (s : State) : Result :=
  raiseDecodeFault 0xDD s

/-- `ILLEGAL_E3` (R270). -/
def execIllegal_E3 (s : State) : Result :=
  raiseDecodeFault 0xE3 s

/-- `ILLEGAL_E4` (R270). -/
def execIllegal_E4 (s : State) : Result :=
  raiseDecodeFault 0xE4 s

/-- `ILLEGAL_EB` (R270). -/
def execIllegal_EB (s : State) : Result :=
  raiseDecodeFault 0xEB s

/-- `ILLEGAL_EC` (R270). -/
def execIllegal_EC (s : State) : Result :=
  raiseDecodeFault 0xEC s

/-- `ILLEGAL_ED` (R270). -/
def execIllegal_ED (s : State) : Result :=
  raiseDecodeFault 0xED s

/-- `ILLEGAL_F4` (R270). -/
def execIllegal_F4 (s : State) : Result :=
  raiseDecodeFault 0xF4 s

/-- `ILLEGAL_FC` (R270). -/
def execIllegal_FC (s : State) : Result :=
  raiseDecodeFault 0xFC s

/-- `ILLEGAL_FD` (R270). -/
def execIllegal_FD (s : State) : Result :=
  raiseDecodeFault 0xFD s

end Sys2Proof.Machine
end

