-- ==== Sys2Proof/Machine/Step.lean ====
section
/-! DEFINITION. One step (R276), and the placing of an instruction where the next step fetches it. -/

namespace Sys2Proof.Machine

/-- `step()` (R276, R280): fetch, decode, advance, execute; in `DecodeFault` and `LowPower`, nothing (R273). The
breakpoint set is not consulted. -/
def step (s : State) : Host.Outcome State Fault Refusal :=
  if s.run.steppable then exec s.fetchInstr (s.advance s.fetchInstr) else holdState s

/-- `s` with an instruction laid where `step` fetches (log 25). -/
def State.withFetchWord (s : State) (nbits w : Nat) : State := s.placeInstr (layTableWord nbits w)

end Sys2Proof.Machine
end

