-- ==== Sys2Proof/Machine/HostPort.lean ====
section
/-! DEFINITION. The host port (60_exceptions.md section 5): what the second agent, the host, does between steps (R2,
R287). `step()` itself is `step` (R280), and the reset operation is `State.resetEvent` (R300). -/

namespace Sys2Proof.Machine

/-! ## Breakpoints (R281, R283) -/

/-- Adds an address to an ascending list. -/
def insertAddr (a : Word) : List Word → List Word
  | [] => [a]
  | b :: bs => if a < b then a :: b :: bs else if a = b then b :: bs else b :: insertAddr a bs

/-- `add_breakpoint(address)` (R283). -/
def State.addBreakpoint (s : State) (a : Word) : State := { s with bp := insertAddr a s.bp }

/-- The host's recoverable errors (R271, R283). -/
inductive HostError where
  /-- The address to delete is no member of the breakpoint set. -/
  | noSuchBreakpoint (a : Word)
deriving DecidableEq, Repr

/-- `delete_breakpoint(address)`: the outcome reported, and the state after it, unchanged where it fails (R283). -/
def State.deleteBreakpoint (s : State) (a : Word) : Except HostError Unit × State :=
  if a ∈ s.bp then (.ok (), { s with bp := s.bp.filter (fun b => b ≠ a) }) else (.error (.noSuchBreakpoint a), s)

/-- `delete_all_breakpoints()` (R283). -/
def State.deleteAllBreakpoints (s : State) : State := { s with bp := [] }

/-- `breakpoints()`: the members in ascending order (R281, R283). -/
def State.breakpoints (s : State) : List Word := s.bp

/-! ## Running (R280, R282, R284) -/

/-- How far `run_until_break()` got within a number of iterations. -/
inductive RunEnd where
  /-- It returned, in the state given. -/
  | returned (s : State)
  /-- A step was refused (R51, `external`). -/
  | refused (r : Refusal)
  /-- It has not returned yet (R284: a run may be infinite). -/
  | unfinished (s : State)
deriving DecidableEq, Repr

/-- `run_until_break()`, for at most `n` iterations of its loop (R282): the stop test, the breakpoint test on `pc`
as it stands (R281), then one step. -/
def runUntilBreak : Nat → State → RunEnd
  | 0, s => .unfinished s
  | n + 1, s =>
    if s.run.steppable then
      if s.pc ∈ s.bp then .returned { s with run := .breakHalted }
      else
        match step s with
        | .next t => runUntilBreak n t
        | .fault f => nomatch f
        | .refused r => .refused r
    else .returned s

/-! ## Inspection and memory (R285 to R288) -/

/-- `load_byte` as the host's access (R287). -/
def State.hostLoad (s : State) (a : Word) : Byte := s.readAs .host a

/-- `store` as the host's access (R287): the core's own. -/
def hostStore (a : Word) (v : Byte) (s : State) : Result := storeByte a v s

/-- `dump(address, length)` (R285): byte `i` is the load of `address + i`, modulo 65536. -/
def State.dump (s : State) (a : Word) : Nat → List Byte
  | 0 => []
  | n + 1 => s.hostLoad a :: s.dump (a + 1#16) n

/-- The register snapshot (R286). -/
structure Snapshot where
  AF : Word
  BC : Word
  DE : Word
  HL : Word
  SP : Word
  PC : Word
  run : RunState
  ime : Bool
deriving DecidableEq, Repr

/-- What the host reads of the registers (R286). -/
def State.snapshot (s : State) : Snapshot :=
  { AF := s.reg16 .AF, BC := s.reg16 .BC, DE := s.reg16 .DE, HL := s.reg16 .HL, SP := s.reg16 .SP, PC := s.pc
    run := s.run, ime := s.ime }

/-- `disassemble(address, count)` (R288) without its text: the addresses and the decoded rows. -/
def State.disassemble (s : State) (a : Word) : Nat → List (Word × Instr)
  | 0 => []
  | n + 1 =>
    let i := decode3 (s.hostLoad a) (s.hostLoad (a + 1#16)) (s.hostLoad (a + 2#16))
    (a, i) :: s.disassemble (a + BitVec.ofNat 16 i.length) n

end Sys2Proof.Machine
end

