-- ==== Sys2Proof/Safety.lean ====
section
/-! DEFINITION. How a run ends (R284), the invariant of the machine, and the words in which statements say what an
instruction leaves unchanged. -/

namespace Sys2Proof.Machine

/-! ## Ends of a run (R284) -/

/-- A fault end: never a final state of a claim (R270, R284 case (b)). -/
def State.faulted (s : State) : Bool :=
  match s.run with
  | .decodeFault _ _ => true
  | _ => false

/-- Stuck, and not final (R261, R284 case (c)). -/
def State.stuck (s : State) : Bool :=
  match s.run with
  | .lowPower _ => true
  | _ => false

/-- The normal end, chosen by whoever set the breakpoints (R284 case (a)). -/
def State.normalEnd (s : State) : Bool := decide (s.run = .breakHalted ∧ s.pc ∈ s.bp)

/-! ## The invariant -/

/-- A recorded decode failure is at the program counter, and its byte is an undefined one (R270). -/
def State.FaultRecorded (s : State) : Prop :=
  match s.run with
  | .decodeFault a op => a = s.pc ∧ op ∈ undefinedBytes
  | _ => True

/-- What every reachable state has: the storage in its canonical form (R40), bits 3..0 of F zero (R17), the breakpoint
set in ascending order (R281), and a decode failure recorded as R270 says. -/
structure State.Inv (s : State) : Prop where
  mem_wf : s.mem.wf
  flags_low : s.f &&& 0x0F#8 = 0#8
  bp_ascending : s.bp.Pairwise (fun a b => a < b)
  fault_recorded : s.FaultRecorded

/-! ## What an instruction leaves unchanged -/

/-- All general registers but those named keep their values. -/
def KeepsRegs (written : List Reg8) (s t : State) : Prop := ∀ r, r ∉ written → t.reg8 r = s.reg8 r

/-- What only the host port, `HALT`, `STOP`, `DI`, `EI`, `RETI` and a decode failure write. -/
def KeepsControl (s t : State) : Prop :=
  t.ime = s.ime ∧ t.run = s.run ∧ t.bp = s.bp ∧ t.platform = s.platform ∧ t.draws = s.draws

/-- The four flags, and bits 3..0 of F zero (R15, R17). -/
def FlagsAre (t : State) (z n h c : Bool) : Prop :=
  t.flagZ = z ∧ t.flagN = n ∧ t.flagH = h ∧ t.flagC = c ∧ t.f &&& 0x0F#8 = 0#8

/-- All memory reads as before. -/
def KeepsMemory (s t : State) : Prop := ∀ a, t.loadByte a = s.loadByte a

/-- Of all memory, exactly the bytes named are stored: every address that reaches none of their cells reads as before.
Every address that reaches the cell of one of them, under whichever alias (R42, R45), reads as its byte where stores
are read back, as before where the region ignores stores (R51), and as the pattern where loads give one (R49). Of a cell
whose loads are draws (U2) nothing is said. -/
def StoresOnly (ws : List (Word × Byte)) (s t : State) : Prop :=
  (∀ a, (∀ w ∈ ws, canon a ≠ canon w.1) → t.loadByte a = s.loadByte a) ∧
  (∀ w ∈ ws, ∀ a, canon a = canon w.1 → s.kindAt w.1 = .storage → t.loadByte a = w.2) ∧
  (∀ w ∈ ws, ∀ a, canon a = canon w.1 → s.kindAt w.1 = .readOnly → t.loadByte a = s.loadByte a) ∧
  (∀ w ∈ ws, ∀ a v, canon a = canon w.1 → s.kindAt w.1 = .constant v → t.loadByte a = v)

/-- The bytes of a word stored at an address, low byte first (R44). -/
def wordCells (a v : Word) : List (Word × Byte) := [(a, loByte v), (a + 1#16, hiByte v)]

/-- The addresses of a word, in the order in which its bytes are stored (R44). -/
def wordAddrs (a : Word) : List Word := [a, a + 1#16]

/-- The addresses that an instruction stores to in a state, in the order of its stores; none where it stores nothing,
as a call whose condition fails. -/
def storedAddrs (i : Instr) (s : State) : List Word :=
  match i with
  | .ld_mHL_B | .ld_mHL_C | .ld_mHL_D | .ld_mHL_E | .ld_mHL_H | .ld_mHL_L | .ld_mHL_A | .ld_mHL_n _
  | .ld_mHLi_A | .ld_mHLd_A | .inc_mHL | .dec_mHL
  | .rlc_mHL | .rrc_mHL | .rl_mHL | .rr_mHL | .sla_mHL | .sra_mHL | .swap_mHL | .srl_mHL
  | .res_0_mHL | .res_1_mHL | .res_2_mHL | .res_3_mHL | .res_4_mHL | .res_5_mHL | .res_6_mHL | .res_7_mHL
  | .set_0_mHL | .set_1_mHL | .set_2_mHL | .set_3_mHL | .set_4_mHL | .set_5_mHL | .set_6_mHL | .set_7_mHL =>
    [s.reg16 .HL]
  | .ld_mBC_A => [s.reg16 .BC]
  | .ld_mDE_A => [s.reg16 .DE]
  | .ld_mnn_A nn => [nn]
  | .ldh_mn_A n => [BitVec.ofNat 16 (0xFF00 + n.toNat)]
  | .ld_mC_A => [BitVec.ofNat 16 (0xFF00 + s.c.toNat)]
  | .ld_mnn_SP nn => wordAddrs nn
  | .push_BC | .push_DE | .push_HL | .push_AF | .call_nn _
  | .rst_00 | .rst_08 | .rst_10 | .rst_18 | .rst_20 | .rst_28 | .rst_30 | .rst_38 => wordAddrs (s.sp - 2#16)
  | .call_NZ_nn _ => if !s.flagZ then wordAddrs (s.sp - 2#16) else []
  | .call_Z_nn _ => if s.flagZ then wordAddrs (s.sp - 2#16) else []
  | .call_NC_nn _ => if !s.flagC then wordAddrs (s.sp - 2#16) else []
  | .call_C_nn _ => if s.flagC then wordAddrs (s.sp - 2#16) else []
  | _ => []

/-- The first address among those given that does not accept a store (R51). -/
def State.firstRefusing (s : State) (as : List Word) : Option Word := as.find? (fun a => s.kindAt a = .refusing)

/-- Only the registers named may change: the rest of the registers, SP, PC, the control state and all memory stay. F is
not spoken of. -/
def ChangesRegs (written : List Reg8) (s t : State) : Prop :=
  KeepsRegs written s t ∧ t.sp = s.sp ∧ t.pc = s.pc ∧ KeepsControl s t ∧ KeepsMemory s t

/-- Only the bytes named are stored and only the registers named may change. F is not spoken of. -/
def ChangesCells (ws : List (Word × Byte)) (written : List Reg8) (s t : State) : Prop :=
  KeepsRegs written s t ∧ t.sp = s.sp ∧ t.pc = s.pc ∧ KeepsControl s t ∧ StoresOnly ws s t

/-- Nothing changes but PC, SP and the bytes named. -/
def TransfersOnly (ws : List (Word × Byte)) (s t : State) : Prop :=
  KeepsRegs [] s t ∧ t.f = s.f ∧ KeepsControl s t ∧ StoresOnly ws s t

/-- The byte registers that a 16-bit register is made of, but for F. -/
def halves : Reg16 → List Reg8
  | .AF => [.A]
  | .BC => [.B, .C]
  | .DE => [.D, .E]
  | .HL => [.H, .L]
  | .SP => []

/-- The value of an `r` field's operand (R72, R79, R80). -/
def placeValue (s : State) : Place8 → Byte
  | .reg r => s.reg8 r
  | .mHL => s.loadByte (s.reg16 .HL)

/-- An operand can be written: a register always, `(HL)` where the store is accepted. -/
def placeWritable (s : State) : Place8 → Prop
  | .reg _ => True
  | .mHL => s.Accepts (s.reg16 .HL)

/-- The operand becomes `v` and nothing else changes; F is not spoken of. -/
def WritesPlace (x : Place8) (v : Byte) (s t : State) : Prop :=
  match x with
  | .reg r => t.reg8 r = v ∧ ChangesRegs [r] s t
  | .mHL => ChangesCells [(s.reg16 .HL, v)] [] s t

/-- `i` is a form of the accumulator operation whose second operand has the value `v` in `s` (42_alu8.md section 1). -/
def AluForm (op : AluOp) (s : State) (i : Instr) (v : Byte) : Prop :=
  (∃ x, i = aluP op x ∧ v = placeValue s x) ∨ i = aluN op v

/-- The encodings of an accumulator operation (42_alu8.md section 1). -/
def AluEncoded (op : AluOp) : Prop :=
  (∀ x, encode (aluP op x) = [BitVec.ofNat 8 (0x80 + 8 * aluCode op + placeCode x)]) ∧
  (∀ n, encode (aluN op n) = [BitVec.ofNat 8 (0xC6 + 8 * aluCode op), n])

/-- `r` is `v` moved one place up, with `bitIn` in bit 0. -/
def ShiftedLeft (v r : Byte) (bitIn : Bool) : Prop :=
  (∀ k < 7, r.getLsbD (k + 1) = v.getLsbD k) ∧ r.getLsbD 0 = bitIn

/-- `r` is `v` moved one place down, with `bitIn` in bit 7. -/
def ShiftedRight (v r : Byte) (bitIn : Bool) : Prop :=
  (∀ k < 7, r.getLsbD k = v.getLsbD (k + 1)) ∧ r.getLsbD 7 = bitIn

/-- The result byte and the carry of a rotate, shift or swap, bit by bit (R214 to R221). -/
def RotatesTo (op : RotOp) (v : Byte) (cin : Bool) (r : Byte) (c : Bool) : Prop :=
  match op with
  | .RLC => ShiftedLeft v r (v.getLsbD 7) ∧ c = v.getLsbD 7
  | .RRC => ShiftedRight v r (v.getLsbD 0) ∧ c = v.getLsbD 0
  | .RL => ShiftedLeft v r cin ∧ c = v.getLsbD 7
  | .RR => ShiftedRight v r cin ∧ c = v.getLsbD 0
  | .SLA => ShiftedLeft v r false ∧ c = v.getLsbD 7
  | .SRA => ShiftedRight v r (v.getLsbD 7) ∧ c = v.getLsbD 0
  | .SWAP => (∀ k < 4, r.getLsbD k = v.getLsbD (k + 4) ∧ r.getLsbD (k + 4) = v.getLsbD k) ∧ c = false
  | .SRL => ShiftedRight v r false ∧ c = v.getLsbD 0

/-- The instruction completes, and the next state is as said. -/
def Completes (i : Instr) (s : State) (post : State → Prop) : Prop := ∃ t, exec i s = .next t ∧ post t

/-- `n` executions of one instruction. -/
def execTimes (i : Instr) : Nat → State → Result
  | 0, s => .next s
  | n + 1, s => andThen (exec i s) (execTimes i n)

/-- The first bytes of the control transfer instructions (46_control.md). -/
def controlOpcodes : List Byte :=
  [0xC3, 0xC2, 0xCA, 0xD2, 0xDA, 0xE9, 0x18, 0x20, 0x28, 0x30, 0x38, 0xCD, 0xC4, 0xCC, 0xD4, 0xDC, 0xC9, 0xC0, 0xC8,
    0xD0, 0xD8, 0xD9, 0xC7, 0xCF, 0xD7, 0xDF, 0xE7, 0xEF, 0xF7, 0xFF]

/-- A byte of two decimal digits. -/
def IsBcd (v : Byte) : Prop := v.toNat / 16 ≤ 9 ∧ v.toNat % 16 ≤ 9

/-- The number that two decimal digits stand for. -/
def bcdValue (v : Byte) : Nat := 10 * (v.toNat / 16) + v.toNat % 16

end Sys2Proof.Machine
end

