-- ==== Sys2Proof/Certificates/Slice0/Obligations.lean ====
section
/-! DEFINITION. The statements for the provers. In an instruction's statement the state before is the one `exec` gets,
with PC already at the next instruction (R20); `StepRunsTheDecodedInstruction` ties that to a step. -/

open Sys2Proof Sys2Proof.Machine

/-- Decoding an encoded instruction gives it back. The decoder follows the grids of R85 to R89, the encoder the rows of opcode_table.json: the two agree. R91. (R84, R71, 30_encoding.md section 5) -/
def Obligations.EveryEncodingDecodesBack : Prop :=
  ∀ (i : Instr) (rest : List Byte), decode (encode i ++ rest) = .ok (i, rest)

/-- Encoding what was decoded gives the bytes back. The other direction of the round trip: R91 as R90 and R94 complete it. (R91, R70, R71) -/
def Obligations.EveryByteSequenceHasOneMeaning : Prop :=
  ∀ b0 b1 b2 : Byte, encode (decode3 b0 b1 b2) = [b0, b1, b2].take (formatOf b0).length

/-- Words written out from the spec decode to their instructions. (R76, R89, 95_test_vectors.md section 2) -/
def Obligations.SpecWordsDecode : Prop :=
  decode [0xC3, 0x50, 0x01] = .ok (.jp_nn 0x0150, []) ∧ decode [0x31, 0xFE, 0xFF] = .ok (.ld_SP_nn 0xFFFE, []) ∧
  decode [0x41] = .ok (.ld_B_C, []) ∧ decode [0x3E, 0x42] = .ok (.ld_A_n 0x42, []) ∧
  decode [0x22] = .ok (.ld_mHLi_A, []) ∧ decode [0xF8, 0x05] = .ok (.ld_HL_SPe 0x05, []) ∧
  decode [0x8B] = .ok (.adc_A_E, []) ∧ decode [0xDE, 0x3A] = .ok (.sbc_A_n 0x3A, []) ∧
  decode [0x27] = .ok (.daa, []) ∧ decode [0x29] = .ok (.add_HL_HL, []) ∧
  decode [0xCB, 0x15] = .ok (.rl_L, []) ∧ decode [0xCB, 0x9E] = .ok (.res_3_mHL, []) ∧
  decode [0x20, 0xFC] = .ok (.jr_NZ_e 0xFC, []) ∧ decode [0xD4, 0x34, 0x12] = .ok (.call_NC_nn 0x1234, []) ∧
  decode [0xEF] = .ok (.rst_28, []) ∧ decode [0x10, 0xD3] = .ok (.stop 0xD3, []) ∧
  decode [0xCB, 0xCB] = .ok (.set_1_E, [])

/-- Decode fails by name on exactly the eleven undefined bytes. (R90, R84) -/
def Obligations.DecodeFailsExactlyOnUndefinedBytes : Prop :=
  ∀ (b0 b1 b2 : Byte) (rest : List Byte),
    (b0 ∈ ([0xD3, 0xDB, 0xDD, 0xE3, 0xE4, 0xEB, 0xEC, 0xED, 0xF4, 0xFC, 0xFD] : List Byte) →
      decodeEntry (b0 :: b1 :: b2 :: rest) = .error (.unimplemented b0)) ∧
    (b0 ∉ ([0xD3, 0xDB, 0xDD, 0xE3, 0xE4, 0xEB, 0xEC, 0xED, 0xF4, 0xFC, 0xFD] : List Byte) →
      ∃ i, decodeEntry (b0 :: b1 :: b2 :: rest) = .ok (i, (b0 :: b1 :: b2 :: rest).drop i.length) ∧
        i.wellFormed = true)

/-- A step runs the instruction decoded at the program counter. (R276, R20, R21, R280) -/
def Obligations.StepRunsTheDecodedInstruction : Prop :=
  ∀ (i : Instr) (s : State),
    (s.run = .running ∨ s.run = .breakHalted) →
    (∀ (k : Nat) (h : k < (encode i).length), s.fetchByte (s.pc + BitVec.ofNat 16 k) = (encode i)[k]) →
    step s = exec i { s with
      pc := if i.wellFormed then s.pc + BitVec.ofNat 16 (encode i).length else s.pc
      run := .running, draws := s.draws + 1 }

/-- A step of a stopped core executes nothing and changes nothing. (R273) -/
def Obligations.StoppedCoreChangesNothing : Prop :=
  ∀ (s : State) (a : Word) (op : Byte) (k : LowPowerKind),
    s.run = .decodeFault a op ∨ s.run = .lowPower k → step s = .next s

/-- Fetching an undefined byte records a decode failure and changes nothing else. (R270, R273, R277) -/
def Obligations.UndefinedByteStopsTheCore : Prop :=
  ∀ (s : State), (s.run = .running ∨ s.run = .breakHalted) →
    s.fetchByte s.pc ∈ ([0xD3, 0xDB, 0xDD, 0xE3, 0xE4, 0xEB, 0xEC, 0xED, 0xF4, 0xFC, 0xFD] : List Byte) →
    ∃ t, step s = .next t ∧ t.run = .decodeFault s.pc (s.fetchByte s.pc) ∧ t.pc = s.pc ∧
      KeepsRegs [] s t ∧ t.f = s.f ∧ t.sp = s.sp ∧ t.ime = s.ime ∧ t.bp = s.bp ∧ t.platform = s.platform ∧
      t.mem = s.mem ∧ step t = .next t

/-- The row of an undefined byte takes the decode failure. (R270, R90) -/
def Obligations.UndefinedRowTakesTheDecodeFailure : Prop :=
  ∀ (u : UndefinedOp) (s : State),
    encode (undefinedOp u) = [undefinedOpByte u] ∧ undefinedOpByte u ∈ undefinedBytes ∧
    Completes (undefinedOp u) s fun t =>
      t.run = .decodeFault s.pc (undefinedOpByte u) ∧ KeepsRegs [] s t ∧ t.f = s.f ∧ t.sp = s.sp ∧ t.pc = s.pc ∧
      t.ime = s.ime ∧ t.bp = s.bp ∧ t.platform = s.platform ∧ t.draws = s.draws ∧ KeepsMemory s t

/-- LD r,r' copies a register. LD B,B to LD A,A. The rule is the spec's from general knowledge of the part (log 3, log 18). (R120) -/
def Obligations.LoadRegisterFromRegister : Prop :=
  ∀ (d r : Reg8) (s : State),
    encode (ldRR d r) = [BitVec.ofNat 8 (0x40 + 8 * regCode d + regCode r)] ∧
    Completes (ldRR d r) s fun t => t.reg8 d = s.reg8 r ∧ ChangesRegs [d] s t ∧ t.f = s.f

/-- LD r,n loads the operand byte. (R121) -/
def Obligations.LoadRegisterFromImmediate : Prop :=
  ∀ (d : Reg8) (n : Byte) (s : State),
    encode (ldRN d n) = [BitVec.ofNat 8 (0x06 + 8 * regCode d), n] ∧
    Completes (ldRN d n) s fun t => t.reg8 d = n ∧ ChangesRegs [d] s t ∧ t.f = s.f

/-- LD r,(HL) loads the byte at HL. (R122) -/
def Obligations.LoadRegisterFromMemory : Prop :=
  ∀ (d : Reg8) (s : State),
    encode (ldRM d) = [BitVec.ofNat 8 (0x46 + 8 * regCode d)] ∧
    Completes (ldRM d) s fun t => t.reg8 d = s.loadByte (s.reg16 .HL) ∧ ChangesRegs [d] s t ∧ t.f = s.f

/-- LD (HL),r and LD (HL),n store a byte at HL. (R123, R124) -/
def Obligations.StoreToMemoryAtHL : Prop :=
  ∀ (r : Reg8) (n : Byte) (s : State),
    encode (ldMR r) = [BitVec.ofNat 8 (0x70 + regCode r)] ∧ encode (.ld_mHL_n n) = [0x36, n] ∧
    (s.Accepts (s.reg16 .HL) →
      (Completes (ldMR r) s fun t => ChangesCells [(s.reg16 .HL, s.reg8 r)] [] s t ∧ t.f = s.f) ∧
      (Completes (.ld_mHL_n n) s fun t => ChangesCells [(s.reg16 .HL, n)] [] s t ∧ t.f = s.f))

/-- LD A from (BC), (DE), (nn), (n) and (C). (R125, R126, R129, R131, R133) -/
def Obligations.LoadAccumulatorFromMemory : Prop :=
  ∀ (n : Byte) (nn : Word) (s : State),
    encode .ld_A_mBC = [0x0A] ∧ encode .ld_A_mDE = [0x1A] ∧ encode (.ld_A_mnn nn) = [0xFA, loByte nn, hiByte nn] ∧
    encode (.ldh_A_mn n) = [0xF0, n] ∧ encode .ld_A_mC = [0xF2] ∧
    ∀ p ∈ [(Instr.ld_A_mBC, s.reg16 .BC), (.ld_A_mDE, s.reg16 .DE), (.ld_A_mnn nn, nn),
        (.ldh_A_mn n, BitVec.ofNat 16 (0xFF00 + n.toNat)), (.ld_A_mC, BitVec.ofNat 16 (0xFF00 + s.c.toNat))],
      Completes p.1 s fun t => t.a = s.loadByte p.2 ∧ ChangesRegs [.A] s t ∧ t.f = s.f

/-- LD of A to (BC), (DE), (nn), (n) and (C). (R127, R128, R130, R132, R134) -/
def Obligations.StoreAccumulatorToMemory : Prop :=
  ∀ (n : Byte) (nn : Word) (s : State),
    encode .ld_mBC_A = [0x02] ∧ encode .ld_mDE_A = [0x12] ∧ encode (.ld_mnn_A nn) = [0xEA, loByte nn, hiByte nn] ∧
    encode (.ldh_mn_A n) = [0xE0, n] ∧ encode .ld_mC_A = [0xE2] ∧
    ∀ p ∈ [(Instr.ld_mBC_A, s.reg16 .BC), (.ld_mDE_A, s.reg16 .DE), (.ld_mnn_A nn, nn),
        (.ldh_mn_A n, BitVec.ofNat 16 (0xFF00 + n.toNat)), (.ld_mC_A, BitVec.ofNat 16 (0xFF00 + s.c.toNat))],
      s.Accepts p.2 → Completes p.1 s fun t => ChangesCells [(p.2, s.a)] [] s t ∧ t.f = s.f

/-- LD with (HL+) and (HL-). (R135, R136, R137, R138) -/
def Obligations.PostIncrementAndDecrementLoads : Prop :=
  ∀ (s : State),
    encode .ld_mHLi_A = [0x22] ∧ encode .ld_A_mHLi = [0x2A] ∧ encode .ld_mHLd_A = [0x32] ∧ encode .ld_A_mHLd = [0x3A] ∧
    (Completes .ld_A_mHLi s fun t => t.a = s.loadByte (s.reg16 .HL) ∧ t.reg16 .HL = s.reg16 .HL + 1#16 ∧
      ChangesRegs [.A, .H, .L] s t ∧ t.f = s.f) ∧
    (Completes .ld_A_mHLd s fun t => t.a = s.loadByte (s.reg16 .HL) ∧ t.reg16 .HL = s.reg16 .HL - 1#16 ∧
      ChangesRegs [.A, .H, .L] s t ∧ t.f = s.f) ∧
    (s.Accepts (s.reg16 .HL) →
      (Completes .ld_mHLi_A s fun t => t.reg16 .HL = s.reg16 .HL + 1#16 ∧
        ChangesCells [(s.reg16 .HL, s.a)] [.H, .L] s t ∧ t.f = s.f) ∧
      (Completes .ld_mHLd_A s fun t => t.reg16 .HL = s.reg16 .HL - 1#16 ∧
        ChangesCells [(s.reg16 .HL, s.a)] [.H, .L] s t ∧ t.f = s.f))

/-- LD rr,nn loads a pair, low byte first. (R150) -/
def Obligations.LoadPairFromImmediate : Prop :=
  ∀ (p : Pair) (nn : Word) (s : State),
    encode (ldPairNN p nn) = [BitVec.ofNat 8 (0x01 + 16 * pairCode p), loByte nn, hiByte nn] ∧
    Completes (ldPairNN p nn) s fun t =>
      t.reg16 (pairReg p) = nn ∧ KeepsRegs (halves (pairReg p)) s t ∧ (p ≠ .SP → t.sp = s.sp) ∧ t.f = s.f ∧
      t.pc = s.pc ∧ KeepsControl s t ∧ KeepsMemory s t

/-- LD (nn),SP and LD SP,HL. (R151, R152) -/
def Obligations.StoreAndLoadStackPointer : Prop :=
  ∀ (nn : Word) (s : State),
    encode (.ld_mnn_SP nn) = [0x08, loByte nn, hiByte nn] ∧ encode .ld_SP_HL = [0xF9] ∧
    (s.Accepts nn → s.Accepts (nn + 1#16) →
      Completes (.ld_mnn_SP nn) s fun t => ChangesCells (wordCells nn s.sp) [] s t ∧ t.f = s.f) ∧
    (Completes .ld_SP_HL s fun t => t.sp = s.reg16 .HL ∧ KeepsRegs [] s t ∧ t.f = s.f ∧ t.pc = s.pc ∧
      KeepsControl s t ∧ KeepsMemory s t)

/-- LD HL,SP+e and ADD SP,e. (R153, R203) -/
def Obligations.StackPointerPlusOffset : Prop :=
  ∀ (e : Byte) (s : State),
    encode (.ld_HL_SPe e) = [0xF8, e] ∧ encode (.add_SP_e e) = [0xE8, e] ∧
    e8 e = e.toInt ∧
    (Completes (.ld_HL_SPe e) s fun t =>
      t.reg16 .HL = BitVec.ofInt 16 ((s.sp.toNat : Int) + e.toInt) ∧ ChangesRegs [.H, .L] s t ∧
      FlagsAre t false false (decide (s.sp.toNat % 16 + e.toNat % 16 > 0xF))
        (decide (s.sp.toNat % 256 + e.toNat > 0xFF))) ∧
    (Completes (.add_SP_e e) s fun t =>
      t.sp = BitVec.ofInt 16 ((s.sp.toNat : Int) + e.toInt) ∧ KeepsRegs [] s t ∧ t.pc = s.pc ∧ KeepsControl s t ∧
      KeepsMemory s t ∧
      FlagsAre t false false (decide (s.sp.toNat % 16 + e.toNat % 16 > 0xF))
        (decide (s.sp.toNat % 256 + e.toNat > 0xFF)))

/-- PUSH rr decrements SP by 2 and stores the pair there. (R154) -/
def Obligations.PushStoresThePair : Prop :=
  ∀ (p : StackPair) (s : State),
    encode (pushP p) = [BitVec.ofNat 8 (0xC5 + 16 * stackPairCode p)] ∧
    (s.Accepts (s.sp - 2#16) → s.Accepts (s.sp - 2#16 + 1#16) →
      Completes (pushP p) s fun t =>
        t.sp = s.sp - 2#16 ∧ t.pc = s.pc ∧ TransfersOnly (wordCells (s.sp - 2#16) (s.reg16 (stackPairReg p))) s t)

/-- POP rr loads the pair from SP and increments SP by 2. (R155) -/
def Obligations.PopLoadsThePair : Prop :=
  ∀ (p : StackPair) (s : State),
    encode (popP p) = [BitVec.ofNat 8 (0xC1 + 16 * stackPairCode p)] ∧
    Completes (popP p) s fun t =>
      t.sp = s.sp + 2#16 ∧ t.pc = s.pc ∧ KeepsRegs (halves (stackPairReg p)) s t ∧ KeepsControl s t ∧
      KeepsMemory s t ∧
      (p ≠ .AF → t.reg16 (stackPairReg p) = joinBytes (s.loadByte (s.sp + 1#16)) (s.loadByte s.sp) ∧ t.f = s.f) ∧
      (p = .AF → t.a = s.loadByte (s.sp + 1#16) ∧ t.f = s.loadByte s.sp &&& 0xF0#8 ∧
        FlagsAre t ((s.loadByte s.sp).getLsbD 7) ((s.loadByte s.sp).getLsbD 6) ((s.loadByte s.sp).getLsbD 5)
          ((s.loadByte s.sp).getLsbD 4))

/-- PUSH rr then POP rr copies a pair and restores SP. (R155, R154, R18) -/
def Obligations.PushThenPopCopies : Prop :=
  ∀ (p q : StackPair) (s : State),
    s.kindAt (s.sp - 2#16) = .storage → s.kindAt (s.sp - 2#16 + 1#16) = .storage →
    ∃ t u, exec (pushP p) s = .next t ∧ exec (popP q) t = .next u ∧ u.sp = s.sp ∧ u.pc = s.pc ∧
      u.reg16 (stackPairReg q) =
        (if q = .AF then s.reg16 (stackPairReg p) &&& 0xFFF0#16 else s.reg16 (stackPairReg p)) ∧
      (p = .AF → q = .AF → s.f &&& 0x0F#8 = 0#8 → u.a = s.a ∧ u.f = s.f)

/-- ADD and ADC on every operand form. ADD and ADC with B, C, D, E, H, L, A, (HL) and n. The rule is the spec's from general knowledge of the part (log 3, log 18). (R170, R171) -/
def Obligations.AddAndAddWithCarry : Prop :=
  AluEncoded .ADD ∧ AluEncoded .ADC ∧ ∀ (s : State) (i : Instr) (v : Byte),
    (AluForm .ADD s i v → Completes i s fun t =>
      t.a.toNat = (s.a.toNat + v.toNat) % 256 ∧ ChangesRegs [.A] s t ∧
      FlagsAre t (decide ((s.a.toNat + v.toNat) % 256 = 0)) false (decide (s.a.toNat % 16 + v.toNat % 16 > 0xF))
        (decide (s.a.toNat + v.toNat > 0xFF))) ∧
    (AluForm .ADC s i v → Completes i s fun t =>
      t.a.toNat = (s.a.toNat + v.toNat + s.flagC.toNat) % 256 ∧ ChangesRegs [.A] s t ∧
      FlagsAre t (decide ((s.a.toNat + v.toNat + s.flagC.toNat) % 256 = 0)) false
        (decide (s.a.toNat % 16 + v.toNat % 16 + s.flagC.toNat > 0xF))
        (decide (s.a.toNat + v.toNat + s.flagC.toNat > 0xFF)))

/-- SUB, SBC and CP on every operand form. SUB, SBC and CP with B, C, D, E, H, L, A, (HL) and n. The rule is the spec's from general knowledge of the part (log 3, log 18). (R172, R173, R177) -/
def Obligations.SubtractAndCompare : Prop :=
  AluEncoded .SUB ∧ AluEncoded .SBC ∧ AluEncoded .CP ∧ ∀ (s : State) (i : Instr) (v : Byte),
    (AluForm .SUB s i v → Completes i s fun t =>
      t.a = s.a - v ∧ ChangesRegs [.A] s t ∧
      FlagsAre t (decide (s.a = v)) true (decide (s.a.toNat % 16 < v.toNat % 16)) (decide (s.a.toNat < v.toNat))) ∧
    (AluForm .SBC s i v → Completes i s fun t =>
      (t.a.toNat : Int) = ((s.a.toNat : Int) - v.toNat - s.flagC.toNat) % 256 ∧ ChangesRegs [.A] s t ∧
      FlagsAre t (decide (((s.a.toNat : Int) - v.toNat - s.flagC.toNat) % 256 = 0)) true
        (decide (s.a.toNat % 16 < v.toNat % 16 + s.flagC.toNat))
        (decide (s.a.toNat < v.toNat + s.flagC.toNat))) ∧
    (AluForm .CP s i v → Completes i s fun t =>
      ChangesRegs [] s t ∧
      FlagsAre t (decide (s.a = v)) true (decide (s.a.toNat % 16 < v.toNat % 16)) (decide (s.a.toNat < v.toNat)))

/-- AND, XOR and OR on every operand form. AND, XOR and OR with B, C, D, E, H, L, A, (HL) and n. The rule is the spec's from general knowledge of the part (log 3, log 18). (R174, R175, R176) -/
def Obligations.BitwiseOperations : Prop :=
  AluEncoded .AND ∧ AluEncoded .XOR ∧ AluEncoded .OR ∧ ∀ (s : State) (i : Instr) (v : Byte),
    (AluForm .AND s i v → Completes i s fun t =>
      (∀ k, t.a.getLsbD k = (s.a.getLsbD k && v.getLsbD k)) ∧ ChangesRegs [.A] s t ∧
      FlagsAre t (decide (t.a = 0#8)) false true false) ∧
    (AluForm .XOR s i v → Completes i s fun t =>
      (∀ k, t.a.getLsbD k = (s.a.getLsbD k ^^ v.getLsbD k)) ∧ ChangesRegs [.A] s t ∧
      FlagsAre t (decide (t.a = 0#8)) false false false) ∧
    (AluForm .OR s i v → Completes i s fun t =>
      (∀ k, t.a.getLsbD k = (s.a.getLsbD k || v.getLsbD k)) ∧ ChangesRegs [.A] s t ∧
      FlagsAre t (decide (t.a = 0#8)) false false false)

/-- INC x and DEC x of a register or of (HL). INC and DEC of B, C, D, E, H, L, A and (HL). The rule is the spec's from general knowledge of the part (log 3, log 18). (R178, R179) -/
def Obligations.IncrementAndDecrementByte : Prop :=
  ∀ (x : Place8) (s : State),
    encode (incP x) = [BitVec.ofNat 8 (0x04 + 8 * placeCode x)] ∧
    encode (decP x) = [BitVec.ofNat 8 (0x05 + 8 * placeCode x)] ∧
    (placeWritable s x →
      (Completes (incP x) s fun t =>
        WritesPlace x (BitVec.ofNat 8 ((placeValue s x).toNat + 1)) s t ∧
        FlagsAre t (decide ((placeValue s x).toNat = 255)) false (decide ((placeValue s x).toNat % 16 = 15)) s.flagC) ∧
      (Completes (decP x) s fun t =>
        WritesPlace x (BitVec.ofNat 8 ((placeValue s x).toNat + 255)) s t ∧
        FlagsAre t (decide ((placeValue s x).toNat = 1)) true (decide ((placeValue s x).toNat % 16 = 0)) s.flagC))

/-- DAA by its formula. (R180) -/
def Obligations.DecimalAdjustFormula : Prop :=
  ∀ (s : State), encode .daa = [0x27] ∧
    Completes .daa s fun t =>
      (s.flagN = false → t.a.toNat = (s.a.toNat
        + (if s.flagH = true ∨ s.a.toNat % 16 > 9 then 0x06 else 0)
        + (if s.flagC = true ∨ s.a.toNat > 0x99 then 0x60 else 0)) % 256) ∧
      (s.flagN = true → (t.a.toNat : Int) = ((s.a.toNat : Int)
        - (if s.flagH = true then 0x06 else 0) - (if s.flagC = true then 0x60 else 0)) % 256) ∧
      ChangesRegs [.A] s t ∧
      FlagsAre t (decide (t.a = 0#8)) s.flagN false
        (s.flagC || (!s.flagN && decide (s.a.toNat > 0x99)))

/-- ADD or SUB then DAA is decimal arithmetic. What R180 says DAA is for ("decimal adjust A after a BCD addition or subtraction"), against R170 and R172. (R180, R170, R172) -/
def Obligations.DecimalAdditionAndSubtraction : Prop :=
  ∀ (s : State), IsBcd s.a → IsBcd s.b →
    (∃ t u, exec .add_A_B s = .next t ∧ exec .daa t = .next u ∧ IsBcd u.a ∧
      bcdValue u.a = (bcdValue s.a + bcdValue s.b) % 100 ∧
      u.flagC = decide (bcdValue s.a + bcdValue s.b > 99) ∧ u.b = s.b) ∧
    (∃ t u, exec .sub_B s = .next t ∧ exec .daa t = .next u ∧ IsBcd u.a ∧
      (bcdValue u.a : Int) = ((bcdValue s.a : Int) - bcdValue s.b) % 100 ∧
      u.flagC = decide (bcdValue s.a < bcdValue s.b) ∧ u.b = s.b)

/-- CPL, SCF and CCF. (R181, R182, R183) -/
def Obligations.ComplementAndCarryInstructions : Prop :=
  ∀ (s : State),
    encode .cpl = [0x2F] ∧ encode .scf = [0x37] ∧ encode .ccf = [0x3F] ∧
    (Completes .cpl s fun t => (∀ k < 8, t.a.getLsbD k = !s.a.getLsbD k) ∧ ChangesRegs [.A] s t ∧
      FlagsAre t s.flagZ true true s.flagC) ∧
    (Completes .scf s fun t => ChangesRegs [] s t ∧ FlagsAre t s.flagZ false false true) ∧
    (Completes .ccf s fun t => ChangesRegs [] s t ∧ FlagsAre t s.flagZ false false (!s.flagC))

/-- ADD HL,rr. (R200) -/
def Obligations.AddPairToHL : Prop :=
  ∀ (p : Pair) (s : State),
    encode (addHL p) = [BitVec.ofNat 8 (0x09 + 16 * pairCode p)] ∧
    Completes (addHL p) s fun t =>
      (t.reg16 .HL).toNat = ((s.reg16 .HL).toNat + (s.reg16 (pairReg p)).toNat) % 65536 ∧
      ChangesRegs [.H, .L] s t ∧
      FlagsAre t s.flagZ false
        (decide ((s.reg16 .HL).toNat % 4096 + (s.reg16 (pairReg p)).toNat % 4096 > 0xFFF))
        (decide ((s.reg16 .HL).toNat + (s.reg16 (pairReg p)).toNat > 0xFFFF))

/-- INC rr and DEC rr. (R201, R202) -/
def Obligations.IncrementAndDecrementPair : Prop :=
  ∀ (p : Pair) (s : State),
    encode (incPair p) = [BitVec.ofNat 8 (0x03 + 16 * pairCode p)] ∧
    encode (decPair p) = [BitVec.ofNat 8 (0x0B + 16 * pairCode p)] ∧
    (Completes (incPair p) s fun t =>
      (t.reg16 (pairReg p)).toNat = ((s.reg16 (pairReg p)).toNat + 1) % 65536 ∧ KeepsRegs (halves (pairReg p)) s t ∧
      (p ≠ .SP → t.sp = s.sp) ∧ t.f = s.f ∧ t.pc = s.pc ∧ KeepsControl s t ∧ KeepsMemory s t) ∧
    (Completes (decPair p) s fun t =>
      (t.reg16 (pairReg p)).toNat = ((s.reg16 (pairReg p)).toNat + 65535) % 65536 ∧ KeepsRegs (halves (pairReg p)) s t ∧
      (p ≠ .SP → t.sp = s.sp) ∧ t.f = s.f ∧ t.pc = s.pc ∧ KeepsControl s t ∧ KeepsMemory s t)

/-- RLCA, RRCA, RLA and RRA. That Z is 0 is the spec's decision D12 (90_conflicts.md C7; log 19). (R210, R211, R212, R213) -/
def Obligations.AccumulatorRotates : Prop :=
  encode .rlca = [0x07] ∧ encode .rrca = [0x0F] ∧ encode .rla = [0x17] ∧ encode .rra = [0x1F] ∧
  ∀ (s : State), ∀ p ∈ [(Instr.rlca, RotOp.RLC), (.rrca, .RRC), (.rla, .RL), (.rra, .RR)],
    Completes p.1 s fun t =>
      RotatesTo p.2 s.a s.flagC t.a t.flagC ∧ ChangesRegs [.A] s t ∧ FlagsAre t false false false t.flagC

/-- The eight prefixed rotates and shifts, bit by bit. 64 instructions. (R209, R214, R215, R216, R217, R218, R219, R220, R221) -/
def Obligations.PrefixedRotatesAndShifts : Prop :=
  ∀ (op : RotOp) (x : Place8) (s : State),
    encode (rotP op x) = [0xCB, BitVec.ofNat 8 (8 * rotCode op + placeCode x)] ∧
    (placeWritable s x →
      Completes (rotP op x) s fun t => ∃ r c,
        RotatesTo op (placeValue s x) s.flagC r c ∧ WritesPlace x r s t ∧
        FlagsAre t (decide (r = 0#8)) false false c)

/-- Nine RL instructions restore the operand and the carry. R216, corner cases: "nine applications restore `v` and `cin`". (R216, 44_rotate_shift.md section 3) -/
def Obligations.RotateLeftNineTimesRestores : Prop :=
  ∀ (r : Reg8) (s : State), ∃ t, execTimes (rotP .RL (.reg r)) 9 s = .next t ∧ t.reg8 r = s.reg8 r ∧
    t.flagC = s.flagC ∧ KeepsRegs [r] s t ∧ t.mem = s.mem

/-- BIT b,x. 64 instructions. The rule is the spec's from general knowledge of the part (log 3, log 18). (R230) -/
def Obligations.TestBit : Prop :=
  ∀ (b : Fin 8) (x : Place8) (s : State),
    encode (bitP b x) = [0xCB, BitVec.ofNat 8 (0x40 + 8 * b.val + placeCode x)] ∧
    Completes (bitP b x) s fun t =>
      ChangesRegs [] s t ∧ FlagsAre t (!(placeValue s x).getLsbD b.val) false true s.flagC

/-- RES b,x and SET b,x. 128 instructions. The rule is the spec's from general knowledge of the part (log 3, log 18). (R231, R232) -/
def Obligations.ResetAndSetBit : Prop :=
  ∀ (b : Fin 8) (x : Place8) (s : State),
    encode (resP b x) = [0xCB, BitVec.ofNat 8 (0x80 + 8 * b.val + placeCode x)] ∧
    encode (setP b x) = [0xCB, BitVec.ofNat 8 (0xC0 + 8 * b.val + placeCode x)] ∧
    (placeWritable s x →
      (Completes (resP b x) s fun t => t.f = s.f ∧ ∃ r, WritesPlace x r s t ∧
        ∀ k < 8, r.getLsbD k = ((placeValue s x).getLsbD k && decide (k ≠ b.val))) ∧
      (Completes (setP b x) s fun t => t.f = s.f ∧ ∃ r, WritesPlace x r s t ∧
        ∀ k < 8, r.getLsbD k = ((placeValue s x).getLsbD k || decide (k = b.val))))

/-- JP nn, JP cc,nn and JP HL. (R240, R241, R242) -/
def Obligations.AbsoluteJumps : Prop :=
  ∀ (cc : Cond) (nn : Word) (s : State),
    encode (.jp_nn nn) = [0xC3, loByte nn, hiByte nn] ∧
    encode (jpCC cc nn) = [BitVec.ofNat 8 (0xC2 + 8 * condCode cc), loByte nn, hiByte nn] ∧ encode .jp_HL = [0xE9] ∧
    exec (.jp_nn nn) s = .next { s with pc := nn } ∧
    exec .jp_HL s = .next { s with pc := joinBytes s.h s.l } ∧
    exec (jpCC cc nn) s = .next { s with pc := if (match cc with | .NZ => !s.flagZ | .Z => s.flagZ | .NC => !s.flagC | .C => s.flagC) then nn else s.pc }

/-- JR e and JR cc,e. (R243, R244) -/
def Obligations.RelativeJumps : Prop :=
  ∀ (cc : Cond) (e : Byte) (s : State),
    encode (.jr_e e) = [0x18, e] ∧ encode (jrCC cc e) = [BitVec.ofNat 8 (0x20 + 8 * condCode cc), e] ∧
    exec (.jr_e e) s = .next { s with pc := BitVec.ofInt 16 ((s.pc.toNat : Int) + e.toInt) } ∧
    exec (jrCC cc e) s = .next { s with
      pc := if (match cc with | .NZ => !s.flagZ | .Z => s.flagZ | .NC => !s.flagC | .C => s.flagC) then BitVec.ofInt 16 ((s.pc.toNat : Int) + e.toInt) else s.pc }

/-- CALL nn, CALL cc,nn and RST t. (R245, R246, R253) -/
def Obligations.CallsAndRestarts : Prop :=
  ∀ (cc : Cond) (k : Fin 8) (nn : Word) (s : State),
    encode (.call_nn nn) = [0xCD, loByte nn, hiByte nn] ∧
    encode (callCC cc nn) = [BitVec.ofNat 8 (0xC4 + 8 * condCode cc), loByte nn, hiByte nn] ∧
    encode (rstT k) = [BitVec.ofNat 8 (0xC7 + 8 * k.val)] ∧
    (s.Accepts (s.sp - 2#16) → s.Accepts (s.sp - 2#16 + 1#16) →
      (Completes (.call_nn nn) s fun t =>
        t.pc = nn ∧ t.sp = s.sp - 2#16 ∧ TransfersOnly (wordCells (s.sp - 2#16) s.pc) s t) ∧
      (Completes (rstT k) s fun t =>
        t.pc = BitVec.ofNat 16 (8 * k.val) ∧ t.sp = s.sp - 2#16 ∧ TransfersOnly (wordCells (s.sp - 2#16) s.pc) s t) ∧
      ((match cc with | .NZ => !s.flagZ | .Z => s.flagZ | .NC => !s.flagC | .C => s.flagC) = true → Completes (callCC cc nn) s fun t =>
        t.pc = nn ∧ t.sp = s.sp - 2#16 ∧ TransfersOnly (wordCells (s.sp - 2#16) s.pc) s t)) ∧
    ((match cc with | .NZ => !s.flagZ | .Z => s.flagZ | .NC => !s.flagC | .C => s.flagC) = false → exec (callCC cc nn) s = .next s)

/-- RET, RET cc and RETI. (R250, R251, R252) -/
def Obligations.Returns : Prop :=
  ∀ (cc : Cond) (s : State),
    encode .ret = [0xC9] ∧ encode (retCC cc) = [BitVec.ofNat 8 (0xC0 + 8 * condCode cc)] ∧ encode .reti = [0xD9] ∧
    exec .ret s = .next { s with pc := joinBytes (s.loadByte (s.sp + 1#16)) (s.loadByte s.sp), sp := s.sp + 2#16 } ∧
    exec .reti s = .next { s with
      pc := joinBytes (s.loadByte (s.sp + 1#16)) (s.loadByte s.sp), sp := s.sp + 2#16, ime := true } ∧
    exec (retCC cc) s = (if (match cc with | .NZ => !s.flagZ | .Z => s.flagZ | .NC => !s.flagC | .C => s.flagC) then exec .ret s else .next s)

/-- CALL or RST, then RET, comes back behind the call. (R245, R250, R253) -/
def Obligations.CallThenReturnComesBack : Prop :=
  ∀ (i : Instr) (k : Fin 8) (nn : Word) (s : State), i = .call_nn nn ∨ i = rstT k →
    s.kindAt (s.sp - 2#16) = .storage → s.kindAt (s.sp - 2#16 + 1#16) = .storage →
    ∃ t u, exec i s = .next t ∧ exec .ret t = .next u ∧ u.pc = s.pc ∧ u.sp = s.sp ∧ KeepsRegs [] s u ∧ u.f = s.f ∧
      KeepsControl s u

/-- NOP, HALT, STOP, DI and EI. (R260, R261, R262, R263, R264) -/
def Obligations.SystemInstructions : Prop :=
  ∀ (n : Byte) (s : State),
    encode .nop = [0x00] ∧ encode .halt = [0x76] ∧ encode (.stop n) = [0x10, n] ∧ encode .di = [0xF3] ∧
    encode .ei = [0xFB] ∧
    exec .nop s = .next s ∧ exec .halt s = .next { s with run := .lowPower .halt } ∧
    exec (.stop n) s = .next { s with run := .lowPower .stop } ∧
    exec .di s = .next { s with ime := false } ∧ exec .ei s = .next { s with ime := true }

/-- A store is refused exactly where it is handed to an external mapper; no step faults, by the model's form of the decode failure (log 10). R51: under `external` "the model refuses the store". The first disjunct for an undefined byte, and that there is no fault, is the model's choice of log 10; State.faulted names that state, and it is no final state of a claim. (R51, R271, R42, R44, U7, 60_exceptions.md R270) -/
def Obligations.NothingFaultsAndOnlyExternalStoresAreRefused : Prop :=
  (∀ (a : Word) (v : Byte) (s : State), s.kindAt a = .refusing →
    storeByte a v s = .refused (.externalCartStore (canon a))) ∧
  (∀ (i : Instr) (s : State), match s.firstRefusing (storedAddrs i s) with
    | some a => exec i s = .refused (.externalCartStore (canon a))
    | none => ∃ t, exec i s = .next t) ∧
  ∀ (s : State), (∃ t, step s = .next t) ∨
    (s.platform.cartStore = .external ∧ ∃ a r, step s = .refused (.externalCartStore a) ∧
      resolve s.platform.regions a = some r ∧ r.kind = .external)

/-- Every instruction completes where stores are not external. (R271, R278, R51) -/
def Obligations.EveryDefinedInstructionCompletes : Prop :=
  ∀ (i : Instr) (s : State), s.platform.cartStore ≠ .external →
    Completes i s fun t => t.platform = s.platform ∧ t.bp = s.bp ∧ t.draws = s.draws

/-- Only DI, EI and RETI write ime, and no instruction reads it. (R23) -/
def Obligations.OnlyThreeInstructionsWriteIme : Prop :=
  ∀ (i : Instr) (s t : State), exec i s = .next t →
    (i ≠ .di → i ≠ .ei → i ≠ .reti → t.ime = s.ime) ∧
    (i = .di → t.ime = false) ∧ (i = .ei ∨ i = .reti → t.ime = true) ∧
    (∀ v : Bool, ∃ u, exec i { s with ime := v } = .next u ∧ { u with ime := t.ime } = t)

/-- Only HALT, STOP and an undefined byte leave the run state. (R272, R270, R280) -/
def Obligations.RunStateChangesOnlyByThree : Prop :=
  ∀ (i : Instr) (s t : State), exec i s = .next t →
    (i = .halt → t.run = .lowPower .halt) ∧ (∀ n, i = .stop n → t.run = .lowPower .stop) ∧
    (i.wellFormed = true → i ≠ .halt → (∀ n, i ≠ .stop n) → t.run = s.run)

/-- No instruction reads or writes the breakpoint set. R281: "Only the host changes it; no instruction can read or write it." (R281, R280) -/
def Obligations.BreakpointsAreTheHostsAlone : Prop :=
  ∀ (s t : State) (bs : List Word), step s = .next t →
    t.bp = s.bp ∧ step { s with bp := bs } = .next { t with bp := bs }

/-- Only jumps, calls and returns overwrite the program counter. R20: advanced by the decode step, "except where an instruction (jump/call/return) explicitly overwrites it". (R20, R276, 46_control.md) -/
def Obligations.OnlyControlTransferMovesThePc : Prop :=
  (∀ (i : Instr) (s : State), s.run.steppable = true → s.fetchInstr = i → i.wellFormed = true →
    step s = exec i { s with pc := s.pc + BitVec.ofNat 16 (encode i).length, run := .running, draws := s.draws + 1 }) ∧
  ∀ (i : Instr) (s t : State), exec i s = .next t → (∀ b ∈ (encode i).head?, b ∉ controlOpcodes) → t.pc = s.pc

/-- A cartridge without a mapper is never changed by a step. (R51, R47, R48) -/
def Obligations.RomWithoutMapperNeverChanges : Prop :=
  ∀ (s t : State) (a : Word), s.platform = { referencePlatform with cartStore := .ignore } → step s = .next t →
    a.toNat ≤ 0x7FFF ∨ (0xA000 ≤ a.toNat ∧ a.toNat ≤ 0xBFFF) → t.cell a = s.cell a ∧ t.hostLoad a = s.hostLoad a

/-- Every step keeps the invariant. (R17, R40, R270, R281) -/
def Obligations.EveryStepKeepsTheForm : Prop :=
  ∀ s t : State, s.Inv → step s = .next t → t.Inv

/-- The reset state has the invariant. (R30, R17) -/
def Obligations.ResetHasTheForm : Prop :=
  State.reset.Inv

/-- Every launch has the invariant, and every host operation keeps it. (R300, R47, R301, R283, R287, R282) -/
def Obligations.HostOperationsKeepTheForm : Prop :=
  (∀ (p : Platform) (contents : List (Word × List Byte)) (u : Unspecified), (launch p contents u).Inv) ∧
  ∀ (s : State), s.Inv → s.postBootDMG.Inv ∧
    (∀ u, (s.resetEvent u).Inv) ∧ (∀ a, (s.addBreakpoint a).Inv) ∧ (∀ a, (s.deleteBreakpoint a).2.Inv) ∧
    s.deleteAllBreakpoints.Inv ∧ (∀ a v t, hostStore a v s = .next t → t.Inv) ∧
    (∀ n t, runUntilBreak n s = .returned t ∨ runUntilBreak n s = .unfinished t → t.Inv)

/-- A composite register is its two halves. AF is the exception that R13 derives from R17. (R11, R12, R13, R14, R17) -/
def Obligations.CompositeRegistersReadBack : Prop :=
  ∀ (s : State) (rr : Reg16) (v : Word) (r : Reg8) (w : Byte),
    (s.setReg16 rr v).reg16 rr = (if rr = .AF then v &&& 0xFFF0#16 else v) ∧
    KeepsRegs (halves rr) s (s.setReg16 rr v) ∧
    (s.reg16 .AF).toNat = s.a.toNat * 256 + s.f.toNat ∧ (s.reg16 .BC).toNat = s.b.toNat * 256 + s.c.toNat ∧
    (s.reg16 .DE).toNat = s.d.toNat * 256 + s.e.toNat ∧ (s.reg16 .HL).toNat = s.h.toNat * 256 + s.l.toNat ∧
    ((s.setReg16 .BC v).b.toNat = v.toNat / 256 ∧ (s.setReg16 .BC v).c.toNat = v.toNat % 256) ∧
    ((s.setReg16 .DE v).d.toNat = v.toNat / 256 ∧ (s.setReg16 .DE v).e.toNat = v.toNat % 256) ∧
    ((s.setReg16 .HL v).h.toNat = v.toNat / 256 ∧ (s.setReg16 .HL v).l.toNat = v.toNat % 256) ∧
    ((s.setReg16 .AF v).a.toNat = v.toNat / 256 ∧ (s.setReg16 .AF v).f = v.setWidth 8 &&& 0xF0#8) ∧
    (s.setReg8 r w).reg8 r = w ∧ KeepsRegs [r] s (s.setReg8 r w)

/-- A write to internal RAM or to its echo is read through the other. (R60, R45) -/
def Obligations.EchoRangeIsInternalRam : Prop :=
  ∀ (s : State) (a : Word) (v : Byte), s.platform.regions = referenceRegions → 0xC000 ≤ a.toNat → a.toNat ≤ 0xDDFF →
    (∃ t, storeByte a v s = .next t ∧ t.loadByte (a + 0x2000#16) = v ∧ t.fetchByte (a + 0x2000#16) = v ∧
      t.hostLoad (a + 0x2000#16) = v) ∧
    (∃ t, storeByte (a + 0x2000#16) v s = .next t ∧ t.loadByte a = v ∧ t.fetchByte a = v ∧ t.hostLoad a = v)

/-- On the reference platform every address is a cell that is read back. Policies storage of D4 and D17, the reference values (log 6, log 7). (R41, R42, R45, R49, R50) -/
def Obligations.ReferenceMapIsTotal : Prop :=
  ∀ (s : State) (a b : Word) (v : Byte), s.platform = referencePlatform →
    ∃ t, storeByte a v s = .next t ∧ t.loadByte b = (if canon b = canon a then v else s.loadByte b) ∧
      t.fetchByte b = (if canon b = canon a then v else s.fetchByte b) ∧
      (canon a = if 0xE000 ≤ a.toNat ∧ a.toNat ≤ 0xFDFF then a - 0x2000#16 else a)

/-- A word is stored low byte first and read back. (R43, R44) -/
def Obligations.WordAccessIsLittleEndian : Prop :=
  ∀ (s : State) (a v : Word), s.kindAt a = .storage → s.kindAt (a + 1#16) = .storage →
    s.loadWord a = joinBytes (s.loadByte (a + 1#16)) (s.loadByte a) ∧
    ∃ t, storeWord a v s = .next t ∧ t.loadByte a = loByte v ∧ t.loadByte (a + 1#16) = hiByte v ∧ t.loadWord a = v

/-- What reset leaves, and PostBootDMG. (R300, R30, R17, R301) -/
def Obligations.ResetEventLeavesTheSpecsValues : Prop :=
  (∀ (s : State) (u : Unspecified), (s.resetEvent u).pc = 0x0000#16 ∧ (s.resetEvent u).ime = false ∧
    (s.resetEvent u).run = .running ∧ (s.resetEvent u).bp = [] ∧
    (s.resetEvent u).mem = s.mem ∧ (s.resetEvent u).platform = s.platform ∧
    (s.resetEvent u).a = u.a ∧ (s.resetEvent u).f = u.f &&& 0xF0#8 ∧ (s.resetEvent u).b = u.b ∧
    (s.resetEvent u).c = u.c ∧ (s.resetEvent u).d = u.d ∧ (s.resetEvent u).e = u.e ∧ (s.resetEvent u).h = u.h ∧
    (s.resetEvent u).l = u.l ∧ (s.resetEvent u).sp = u.sp) ∧
  (∃ u, State.reset = State.reset.resetEvent u) ∧
  ∀ (s : State), s.postBootDMG.pc = 0x0100#16 ∧ s.postBootDMG.sp = 0xFFFE#16 ∧ s.postBootDMG.a = 0x01#8 ∧
    s.postBootDMG.f = 0xB0#8 ∧ s.postBootDMG.b = 0x00#8 ∧ s.postBootDMG.c = 0x13#8 ∧ s.postBootDMG.d = 0x00#8 ∧
    s.postBootDMG.e = 0xD8#8 ∧ s.postBootDMG.h = 0x01#8 ∧ s.postBootDMG.l = 0x4D#8 ∧ s.postBootDMG.ime = false ∧
    s.postBootDMG.run = .running ∧ s.postBootDMG.mem = s.mem ∧ s.postBootDMG.platform = s.platform

/-- A run until break ends in exactly one of three ways. (R282, R284) -/
def Obligations.RunUntilBreakEndsInThreeWays : Prop :=
  (∀ (n : Nat) (s t : State), runUntilBreak n s = .returned t →
    (t.run = .breakHalted ∧ t.pc ∈ t.bp) ∨ (∃ a op, t.run = .decodeFault a op) ∨ (∃ k, t.run = .lowPower k)) ∧
  ∀ (n : Nat) (s : State), s.run.steppable = true → s.pc ∈ s.bp →
    runUntilBreak (n + 1) s = .returned { s with run := .breakHalted }

/-- A run until break that halts within its bound (log 23) is the shortest sequence of steps to a breakpoint. R282: repeated steps, with the test first in each iteration. The bound n is the model's (log 23). (R282, R280) -/
def Obligations.RunUntilBreakIsRepeatedStepping : Prop :=
  ∀ (n : Nat) (s t : State), runUntilBreak n s = .returned t → t.run = .breakHalted →
    t.pc ∈ t.bp ∧ ∃ k u, k < n ∧ Host.Core.run Sys2Proof.core k s = .next u ∧ t = { u with run := .breakHalted } ∧ step t = step u ∧
      ∀ j < k, ∃ w, Host.Core.run Sys2Proof.core j s = .next w ∧ w.pc ∉ w.bp

/-- Adding and deleting breakpoints. (R283, R281) -/
def Obligations.BreakpointMaintenance : Prop :=
  ∀ (s : State) (a b : Word), s.bp.Pairwise (fun x y => x < y) →
    (b ∈ (s.addBreakpoint a).bp ↔ b = a ∨ b ∈ s.bp) ∧ (s.addBreakpoint a).bp.Pairwise (fun x y => x < y) ∧
    (a ∈ s.bp → s.addBreakpoint a = s) ∧ { s.addBreakpoint a with bp := s.bp } = s ∧
    (a ∈ s.bp → (s.deleteBreakpoint a).1 = .ok () ∧ (b ∈ (s.deleteBreakpoint a).2.bp ↔ b ≠ a ∧ b ∈ s.bp) ∧
      (s.deleteBreakpoint a).2.bp.Pairwise (fun x y => x < y) ∧ { (s.deleteBreakpoint a).2 with bp := s.bp } = s) ∧
    (a ∉ s.bp → s.deleteBreakpoint a = (.error (.noSuchBreakpoint a), s)) ∧
    s.deleteAllBreakpoints = { s with bp := [] }

/-- dump gives the bytes of consecutive loads. (R285) -/
def Obligations.DumpIsSequentialLoads : Prop :=
  ∀ (s : State) (a : Word) (n : Nat), n ≤ 65536 → (s.dump a n).length = n ∧
    ∀ i < n, (s.dump a n)[i]? = some (s.hostLoad (a + BitVec.ofNat 16 i))
end

