-- ==== Sys2Proof/Laws/State.lean ====
section
/-! SUPPORT. One lemma per field per update, so that no proof unfolds a record update, and what a register reads after
each write. -/

namespace Sys2Proof.Machine

/-! ## `setReg8` -/

@[simp] theorem State.setReg8_f (s : State) (r : Reg8) (v : Byte) : (s.setReg8 r v).f = s.f := by cases r <;> rfl
@[simp] theorem State.setReg8_sp (s : State) (r : Reg8) (v : Byte) : (s.setReg8 r v).sp = s.sp := by cases r <;> rfl
@[simp] theorem State.setReg8_pc (s : State) (r : Reg8) (v : Byte) : (s.setReg8 r v).pc = s.pc := by cases r <;> rfl
@[simp] theorem State.setReg8_ime (s : State) (r : Reg8) (v : Byte) : (s.setReg8 r v).ime = s.ime := by cases r <;> rfl
@[simp] theorem State.setReg8_run (s : State) (r : Reg8) (v : Byte) : (s.setReg8 r v).run = s.run := by cases r <;> rfl
@[simp] theorem State.setReg8_bp (s : State) (r : Reg8) (v : Byte) : (s.setReg8 r v).bp = s.bp := by cases r <;> rfl
@[simp] theorem State.setReg8_mem (s : State) (r : Reg8) (v : Byte) : (s.setReg8 r v).mem = s.mem := by cases r <;> rfl
@[simp] theorem State.setReg8_platform (s : State) (r : Reg8) (v : Byte) : (s.setReg8 r v).platform = s.platform := by cases r <;> rfl
@[simp] theorem State.setReg8_draws (s : State) (r : Reg8) (v : Byte) : (s.setReg8 r v).draws = s.draws := by cases r <;> rfl

/-- A byte register reads what was written to it and no other changes (R10, R11). -/
theorem State.reg8_setReg8 (s : State) (r q : Reg8) (v : Byte) :
    (s.setReg8 r v).reg8 q = if q = r then v else s.reg8 q := by cases r <;> cases q <;> rfl
@[simp] theorem State.reg8_setReg8_self (s : State) (r : Reg8) (v : Byte) : (s.setReg8 r v).reg8 r = v := by
  cases r <;> rfl
theorem State.reg8_setReg8_ne (s : State) (r q : Reg8) (v : Byte) (h : q ≠ r) :
    (s.setReg8 r v).reg8 q = s.reg8 q := by simp [State.reg8_setReg8, h]

/-! ## `setReg16` -/

@[simp] theorem State.setReg16_pc (s : State) (r : Reg16) (v : Word) : (s.setReg16 r v).pc = s.pc := by cases r <;> rfl
@[simp] theorem State.setReg16_ime (s : State) (r : Reg16) (v : Word) : (s.setReg16 r v).ime = s.ime := by cases r <;> rfl
@[simp] theorem State.setReg16_run (s : State) (r : Reg16) (v : Word) : (s.setReg16 r v).run = s.run := by cases r <;> rfl
@[simp] theorem State.setReg16_bp (s : State) (r : Reg16) (v : Word) : (s.setReg16 r v).bp = s.bp := by cases r <;> rfl
@[simp] theorem State.setReg16_mem (s : State) (r : Reg16) (v : Word) : (s.setReg16 r v).mem = s.mem := by cases r <;> rfl
@[simp] theorem State.setReg16_platform (s : State) (r : Reg16) (v : Word) : (s.setReg16 r v).platform = s.platform := by cases r <;> rfl
@[simp] theorem State.setReg16_draws (s : State) (r : Reg16) (v : Word) : (s.setReg16 r v).draws = s.draws := by cases r <;> rfl

/-! ## `setF`, `setFlags` and `setOutFlags` -/

@[simp] theorem State.setF_a (s : State) (v : Byte) : (s.setF v).a = s.a := rfl
@[simp] theorem State.setF_b (s : State) (v : Byte) : (s.setF v).b = s.b := rfl
@[simp] theorem State.setF_c (s : State) (v : Byte) : (s.setF v).c = s.c := rfl
@[simp] theorem State.setF_d (s : State) (v : Byte) : (s.setF v).d = s.d := rfl
@[simp] theorem State.setF_e (s : State) (v : Byte) : (s.setF v).e = s.e := rfl
@[simp] theorem State.setF_h (s : State) (v : Byte) : (s.setF v).h = s.h := rfl
@[simp] theorem State.setF_l (s : State) (v : Byte) : (s.setF v).l = s.l := rfl
@[simp] theorem State.setF_sp (s : State) (v : Byte) : (s.setF v).sp = s.sp := rfl
@[simp] theorem State.setF_pc (s : State) (v : Byte) : (s.setF v).pc = s.pc := rfl
@[simp] theorem State.setF_ime (s : State) (v : Byte) : (s.setF v).ime = s.ime := rfl
@[simp] theorem State.setF_run (s : State) (v : Byte) : (s.setF v).run = s.run := rfl
@[simp] theorem State.setF_bp (s : State) (v : Byte) : (s.setF v).bp = s.bp := rfl
@[simp] theorem State.setF_mem (s : State) (v : Byte) : (s.setF v).mem = s.mem := rfl
@[simp] theorem State.setF_platform (s : State) (v : Byte) : (s.setF v).platform = s.platform := rfl
@[simp] theorem State.setF_draws (s : State) (v : Byte) : (s.setF v).draws = s.draws := rfl
@[simp] theorem State.setF_reg8 (s : State) (v : Byte) (r : Reg8) : (s.setF v).reg8 r = s.reg8 r := by cases r <;> rfl

@[simp] theorem State.setFlags_a (s : State) (zf nf hf cf : Bool) : (s.setFlags zf nf hf cf).a = s.a := rfl
@[simp] theorem State.setFlags_b (s : State) (zf nf hf cf : Bool) : (s.setFlags zf nf hf cf).b = s.b := rfl
@[simp] theorem State.setFlags_c (s : State) (zf nf hf cf : Bool) : (s.setFlags zf nf hf cf).c = s.c := rfl
@[simp] theorem State.setFlags_d (s : State) (zf nf hf cf : Bool) : (s.setFlags zf nf hf cf).d = s.d := rfl
@[simp] theorem State.setFlags_e (s : State) (zf nf hf cf : Bool) : (s.setFlags zf nf hf cf).e = s.e := rfl
@[simp] theorem State.setFlags_h (s : State) (zf nf hf cf : Bool) : (s.setFlags zf nf hf cf).h = s.h := rfl
@[simp] theorem State.setFlags_l (s : State) (zf nf hf cf : Bool) : (s.setFlags zf nf hf cf).l = s.l := rfl
@[simp] theorem State.setFlags_sp (s : State) (zf nf hf cf : Bool) : (s.setFlags zf nf hf cf).sp = s.sp := rfl
@[simp] theorem State.setFlags_pc (s : State) (zf nf hf cf : Bool) : (s.setFlags zf nf hf cf).pc = s.pc := rfl
@[simp] theorem State.setFlags_ime (s : State) (zf nf hf cf : Bool) : (s.setFlags zf nf hf cf).ime = s.ime := rfl
@[simp] theorem State.setFlags_run (s : State) (zf nf hf cf : Bool) : (s.setFlags zf nf hf cf).run = s.run := rfl
@[simp] theorem State.setFlags_bp (s : State) (zf nf hf cf : Bool) : (s.setFlags zf nf hf cf).bp = s.bp := rfl
@[simp] theorem State.setFlags_mem (s : State) (zf nf hf cf : Bool) : (s.setFlags zf nf hf cf).mem = s.mem := rfl
@[simp] theorem State.setFlags_platform (s : State) (zf nf hf cf : Bool) : (s.setFlags zf nf hf cf).platform = s.platform := rfl
@[simp] theorem State.setFlags_draws (s : State) (zf nf hf cf : Bool) : (s.setFlags zf nf hf cf).draws = s.draws := rfl
@[simp] theorem State.setFlags_reg8 (s : State) (zf nf hf cf : Bool) (r : Reg8) : (s.setFlags zf nf hf cf).reg8 r = s.reg8 r := by cases r <;> rfl

@[simp] theorem State.setOutFlags_a (s : State) (o : AluOut) : (s.setOutFlags o).a = s.a := rfl
@[simp] theorem State.setOutFlags_b (s : State) (o : AluOut) : (s.setOutFlags o).b = s.b := rfl
@[simp] theorem State.setOutFlags_c (s : State) (o : AluOut) : (s.setOutFlags o).c = s.c := rfl
@[simp] theorem State.setOutFlags_d (s : State) (o : AluOut) : (s.setOutFlags o).d = s.d := rfl
@[simp] theorem State.setOutFlags_e (s : State) (o : AluOut) : (s.setOutFlags o).e = s.e := rfl
@[simp] theorem State.setOutFlags_h (s : State) (o : AluOut) : (s.setOutFlags o).h = s.h := rfl
@[simp] theorem State.setOutFlags_l (s : State) (o : AluOut) : (s.setOutFlags o).l = s.l := rfl
@[simp] theorem State.setOutFlags_sp (s : State) (o : AluOut) : (s.setOutFlags o).sp = s.sp := rfl
@[simp] theorem State.setOutFlags_pc (s : State) (o : AluOut) : (s.setOutFlags o).pc = s.pc := rfl
@[simp] theorem State.setOutFlags_ime (s : State) (o : AluOut) : (s.setOutFlags o).ime = s.ime := rfl
@[simp] theorem State.setOutFlags_run (s : State) (o : AluOut) : (s.setOutFlags o).run = s.run := rfl
@[simp] theorem State.setOutFlags_bp (s : State) (o : AluOut) : (s.setOutFlags o).bp = s.bp := rfl
@[simp] theorem State.setOutFlags_mem (s : State) (o : AluOut) : (s.setOutFlags o).mem = s.mem := rfl
@[simp] theorem State.setOutFlags_platform (s : State) (o : AluOut) : (s.setOutFlags o).platform = s.platform := rfl
@[simp] theorem State.setOutFlags_draws (s : State) (o : AluOut) : (s.setOutFlags o).draws = s.draws := rfl
@[simp] theorem State.setOutFlags_reg8 (s : State) (o : AluOut) (r : Reg8) : (s.setOutFlags o).reg8 r = s.reg8 r := by cases r <;> rfl

/-! ## `placeByte` and `stored` -/

@[simp] theorem State.placeByte_a (s : State) (x : Word) (v : Byte) : (s.placeByte x v).a = s.a := rfl
@[simp] theorem State.placeByte_f (s : State) (x : Word) (v : Byte) : (s.placeByte x v).f = s.f := rfl
@[simp] theorem State.placeByte_b (s : State) (x : Word) (v : Byte) : (s.placeByte x v).b = s.b := rfl
@[simp] theorem State.placeByte_c (s : State) (x : Word) (v : Byte) : (s.placeByte x v).c = s.c := rfl
@[simp] theorem State.placeByte_d (s : State) (x : Word) (v : Byte) : (s.placeByte x v).d = s.d := rfl
@[simp] theorem State.placeByte_e (s : State) (x : Word) (v : Byte) : (s.placeByte x v).e = s.e := rfl
@[simp] theorem State.placeByte_h (s : State) (x : Word) (v : Byte) : (s.placeByte x v).h = s.h := rfl
@[simp] theorem State.placeByte_l (s : State) (x : Word) (v : Byte) : (s.placeByte x v).l = s.l := rfl
@[simp] theorem State.placeByte_sp (s : State) (x : Word) (v : Byte) : (s.placeByte x v).sp = s.sp := rfl
@[simp] theorem State.placeByte_pc (s : State) (x : Word) (v : Byte) : (s.placeByte x v).pc = s.pc := rfl
@[simp] theorem State.placeByte_ime (s : State) (x : Word) (v : Byte) : (s.placeByte x v).ime = s.ime := rfl
@[simp] theorem State.placeByte_run (s : State) (x : Word) (v : Byte) : (s.placeByte x v).run = s.run := rfl
@[simp] theorem State.placeByte_bp (s : State) (x : Word) (v : Byte) : (s.placeByte x v).bp = s.bp := rfl
@[simp] theorem State.placeByte_platform (s : State) (x : Word) (v : Byte) : (s.placeByte x v).platform = s.platform := rfl
@[simp] theorem State.placeByte_draws (s : State) (x : Word) (v : Byte) : (s.placeByte x v).draws = s.draws := rfl
@[simp] theorem State.placeByte_reg8 (s : State) (x : Word) (v : Byte) (r : Reg8) : (s.placeByte x v).reg8 r = s.reg8 r := by cases r <;> rfl
@[simp] theorem State.placeByte_reg16 (s : State) (x : Word) (v : Byte) (r : Reg16) : (s.placeByte x v).reg16 r = s.reg16 r := by cases r <;> rfl

@[simp] theorem State.stored_a (s : State) (x : Word) (v : Byte) : (s.stored x v).a = s.a := by unfold State.stored; split <;> rfl
@[simp] theorem State.stored_f (s : State) (x : Word) (v : Byte) : (s.stored x v).f = s.f := by unfold State.stored; split <;> rfl
@[simp] theorem State.stored_b (s : State) (x : Word) (v : Byte) : (s.stored x v).b = s.b := by unfold State.stored; split <;> rfl
@[simp] theorem State.stored_c (s : State) (x : Word) (v : Byte) : (s.stored x v).c = s.c := by unfold State.stored; split <;> rfl
@[simp] theorem State.stored_d (s : State) (x : Word) (v : Byte) : (s.stored x v).d = s.d := by unfold State.stored; split <;> rfl
@[simp] theorem State.stored_e (s : State) (x : Word) (v : Byte) : (s.stored x v).e = s.e := by unfold State.stored; split <;> rfl
@[simp] theorem State.stored_h (s : State) (x : Word) (v : Byte) : (s.stored x v).h = s.h := by unfold State.stored; split <;> rfl
@[simp] theorem State.stored_l (s : State) (x : Word) (v : Byte) : (s.stored x v).l = s.l := by unfold State.stored; split <;> rfl
@[simp] theorem State.stored_sp (s : State) (x : Word) (v : Byte) : (s.stored x v).sp = s.sp := by unfold State.stored; split <;> rfl
@[simp] theorem State.stored_pc (s : State) (x : Word) (v : Byte) : (s.stored x v).pc = s.pc := by unfold State.stored; split <;> rfl
@[simp] theorem State.stored_ime (s : State) (x : Word) (v : Byte) : (s.stored x v).ime = s.ime := by unfold State.stored; split <;> rfl
@[simp] theorem State.stored_run (s : State) (x : Word) (v : Byte) : (s.stored x v).run = s.run := by unfold State.stored; split <;> rfl
@[simp] theorem State.stored_bp (s : State) (x : Word) (v : Byte) : (s.stored x v).bp = s.bp := by unfold State.stored; split <;> rfl
@[simp] theorem State.stored_platform (s : State) (x : Word) (v : Byte) : (s.stored x v).platform = s.platform := by unfold State.stored; split <;> rfl
@[simp] theorem State.stored_draws (s : State) (x : Word) (v : Byte) : (s.stored x v).draws = s.draws := by unfold State.stored; split <;> rfl
@[simp] theorem State.stored_reg8 (s : State) (x : Word) (v : Byte) (r : Reg8) : (s.stored x v).reg8 r = s.reg8 r := by cases r <;> simp [State.reg8]
@[simp] theorem State.stored_reg16 (s : State) (x : Word) (v : Byte) (r : Reg16) : (s.stored x v).reg16 r = s.reg16 r := by cases r <;> simp [State.reg16]
@[simp] theorem State.stored_kindAt (s : State) (x y : Word) (v : Byte) : (s.stored x v).kindAt y = s.kindAt y := by simp [State.kindAt]
@[simp] theorem State.placeByte_kindAt (s : State) (x y : Word) (v : Byte) : (s.placeByte x v).kindAt y = s.kindAt y := rfl

/-! ## `dropWord` and `advance` -/

@[simp] theorem State.dropWord_a (s : State)  : (s.dropWord).a = s.a := rfl
@[simp] theorem State.dropWord_f (s : State)  : (s.dropWord).f = s.f := rfl
@[simp] theorem State.dropWord_b (s : State)  : (s.dropWord).b = s.b := rfl
@[simp] theorem State.dropWord_c (s : State)  : (s.dropWord).c = s.c := rfl
@[simp] theorem State.dropWord_d (s : State)  : (s.dropWord).d = s.d := rfl
@[simp] theorem State.dropWord_e (s : State)  : (s.dropWord).e = s.e := rfl
@[simp] theorem State.dropWord_h (s : State)  : (s.dropWord).h = s.h := rfl
@[simp] theorem State.dropWord_l (s : State)  : (s.dropWord).l = s.l := rfl
@[simp] theorem State.dropWord_pc (s : State)  : (s.dropWord).pc = s.pc := rfl
@[simp] theorem State.dropWord_ime (s : State)  : (s.dropWord).ime = s.ime := rfl
@[simp] theorem State.dropWord_run (s : State)  : (s.dropWord).run = s.run := rfl
@[simp] theorem State.dropWord_bp (s : State)  : (s.dropWord).bp = s.bp := rfl
@[simp] theorem State.dropWord_mem (s : State)  : (s.dropWord).mem = s.mem := rfl
@[simp] theorem State.dropWord_platform (s : State)  : (s.dropWord).platform = s.platform := rfl
@[simp] theorem State.dropWord_draws (s : State)  : (s.dropWord).draws = s.draws := rfl
@[simp] theorem State.dropWord_sp (s : State) : s.dropWord.sp = s.sp + 2#16 := rfl

@[simp] theorem State.advance_a (s : State) (i : Instr) : (s.advance i).a = s.a := rfl
@[simp] theorem State.advance_f (s : State) (i : Instr) : (s.advance i).f = s.f := rfl
@[simp] theorem State.advance_b (s : State) (i : Instr) : (s.advance i).b = s.b := rfl
@[simp] theorem State.advance_c (s : State) (i : Instr) : (s.advance i).c = s.c := rfl
@[simp] theorem State.advance_d (s : State) (i : Instr) : (s.advance i).d = s.d := rfl
@[simp] theorem State.advance_e (s : State) (i : Instr) : (s.advance i).e = s.e := rfl
@[simp] theorem State.advance_h (s : State) (i : Instr) : (s.advance i).h = s.h := rfl
@[simp] theorem State.advance_l (s : State) (i : Instr) : (s.advance i).l = s.l := rfl
@[simp] theorem State.advance_sp (s : State) (i : Instr) : (s.advance i).sp = s.sp := rfl
@[simp] theorem State.advance_ime (s : State) (i : Instr) : (s.advance i).ime = s.ime := rfl
@[simp] theorem State.advance_bp (s : State) (i : Instr) : (s.advance i).bp = s.bp := rfl
@[simp] theorem State.advance_mem (s : State) (i : Instr) : (s.advance i).mem = s.mem := rfl
@[simp] theorem State.advance_platform (s : State) (i : Instr) : (s.advance i).platform = s.platform := rfl
@[simp] theorem State.advance_pc (s : State) (i : Instr) : (s.advance i).pc = s.pc + BitVec.ofNat 16 i.pcAdvance := rfl
@[simp] theorem State.advance_run (s : State) (i : Instr) : (s.advance i).run = .running := rfl
@[simp] theorem State.advance_draws (s : State) (i : Instr) : (s.advance i).draws = s.draws + 1 := rfl
@[simp] theorem State.advance_reg8 (s : State) (i : Instr) (r : Reg8) : (s.advance i).reg8 r = s.reg8 r := by
  cases r <;> rfl

/-! ## Loads do not see register writes -/

/-- A load depends on the storage, the platform and the draw counter alone (R41, R54). -/
theorem State.readAs_congr (k : Access) (s t : State) (x : Word) (hm : t.mem = s.mem) (hp : t.platform = s.platform)
    (hd : t.draws = s.draws) : t.readAs k x = s.readAs k x := by
  simp [State.readAs, State.kindAt, State.cell, hm, hp, hd]
theorem State.loadByte_congr (s t : State) (x : Word) (hm : t.mem = s.mem) (hp : t.platform = s.platform)
    (hd : t.draws = s.draws) : t.loadByte x = s.loadByte x := State.readAs_congr .data s t x hm hp hd
theorem State.loadWord_congr (s t : State) (x : Word) (hm : t.mem = s.mem) (hp : t.platform = s.platform)
    (hd : t.draws = s.draws) : t.loadWord x = s.loadWord x := by
  simp [State.loadWord, State.loadByte_congr s t _ hm hp hd]
theorem State.kindAt_congr (s t : State) (x : Word) (hp : t.platform = s.platform) : t.kindAt x = s.kindAt x := by
  simp [State.kindAt, hp]
@[simp] theorem State.setReg8_loadByte (s : State) (r : Reg8) (v : Byte) (x : Word) : (s.setReg8 r v).loadByte x = s.loadByte x :=
  State.loadByte_congr _ _ x (by simp) (by simp) (by simp)
@[simp] theorem State.setReg8_kindAt (s : State) (r : Reg8) (v : Byte) (x : Word) : (s.setReg8 r v).kindAt x = s.kindAt x :=
  State.kindAt_congr _ _ x (by simp)
@[simp] theorem State.setReg16_loadByte (s : State) (r : Reg16) (v : Word) (x : Word) : (s.setReg16 r v).loadByte x = s.loadByte x :=
  State.loadByte_congr _ _ x (by simp) (by simp) (by simp)
@[simp] theorem State.setReg16_kindAt (s : State) (r : Reg16) (v : Word) (x : Word) : (s.setReg16 r v).kindAt x = s.kindAt x :=
  State.kindAt_congr _ _ x (by simp)
@[simp] theorem State.setFlags_loadByte (s : State) (zf nf hf cf : Bool) (x : Word) : (s.setFlags zf nf hf cf).loadByte x = s.loadByte x :=
  State.loadByte_congr _ _ x (by simp) (by simp) (by simp)
@[simp] theorem State.setFlags_kindAt (s : State) (zf nf hf cf : Bool) (x : Word) : (s.setFlags zf nf hf cf).kindAt x = s.kindAt x :=
  State.kindAt_congr _ _ x (by simp)
@[simp] theorem State.setOutFlags_loadByte (s : State) (o : AluOut) (x : Word) : (s.setOutFlags o).loadByte x = s.loadByte x :=
  State.loadByte_congr _ _ x (by simp) (by simp) (by simp)
@[simp] theorem State.setOutFlags_kindAt (s : State) (o : AluOut) (x : Word) : (s.setOutFlags o).kindAt x = s.kindAt x :=
  State.kindAt_congr _ _ x (by simp)
@[simp] theorem State.dropWord_loadByte (s : State)  (x : Word) : (s.dropWord).loadByte x = s.loadByte x :=
  State.loadByte_congr _ _ x (by simp) (by simp) (by simp)
@[simp] theorem State.dropWord_kindAt (s : State)  (x : Word) : (s.dropWord).kindAt x = s.kindAt x :=
  State.kindAt_congr _ _ x (by simp)

/-! ## Flags (R15, R17) -/

theorem packFlags_bits (z n h c : Bool) :
    (packFlags z n h c).getLsbD 7 = z ∧ (packFlags z n h c).getLsbD 6 = n ∧ (packFlags z n h c).getLsbD 5 = h ∧
      (packFlags z n h c).getLsbD 4 = c ∧ packFlags z n h c &&& 0x0F#8 = 0#8 := by
  revert z n h c; decide
theorem packFlags_mask (z n h c : Bool) : packFlags z n h c &&& Config.flagMask = packFlags z n h c := by
  revert z n h c; decide
@[simp] theorem State.setFlags_f (s : State) (z n h c : Bool) : (s.setFlags z n h c).f = packFlags z n h c := by
  simp [State.setFlags, State.setF, packFlags_mask]
@[simp] theorem State.setFlags_flagZ (s : State) (z n h c : Bool) : (s.setFlags z n h c).flagZ = z := by
  simpa [State.flagZ, Config.flagZ] using (packFlags_bits z n h c).1
@[simp] theorem State.setFlags_flagN (s : State) (z n h c : Bool) : (s.setFlags z n h c).flagN = n := by
  simpa [State.flagN, Config.flagN] using (packFlags_bits z n h c).2.1
@[simp] theorem State.setFlags_flagH (s : State) (z n h c : Bool) : (s.setFlags z n h c).flagH = h := by
  simpa [State.flagH, Config.flagH] using (packFlags_bits z n h c).2.2.1
@[simp] theorem State.setFlags_flagC (s : State) (z n h c : Bool) : (s.setFlags z n h c).flagC = c := by
  simpa [State.flagC, Config.flagC] using (packFlags_bits z n h c).2.2.2.1

end Sys2Proof.Machine
end

