-- ==== Sys2Proof/Laws/Memory.lean ====
section
/-! SUPPORT. The laws of the storage and of the address decoder: read after write, the canonical form, the echo
translation, and what a store does. -/

namespace Sys2Proof.Machine

/-! ## Read after write -/

theorem Memory.read_remove (m : Memory) (n k : Nat) :
    (m.remove n).read k = if k = n then Config.unwrittenByte else m.read k := by
  induction m with
  | nil => simp [Memory.remove, Memory.read]
  | cons p m ih =>
    obtain ⟨q, u⟩ := p
    by_cases h : q = n
    · subst h
      by_cases hk : k = q
      · simp_all [Memory.remove]
      · simp_all [Memory.remove, Memory.read, Ne.symm hk]
    · by_cases hk : q = k
      · subst hk; simp [Memory.remove, Memory.read, h]
      · simp [Memory.remove, Memory.read, h, hk, ih]

theorem Memory.read_insert (m : Memory) (n : Nat) (v : Byte) (k : Nat) (h : m.read n = Config.unwrittenByte)
    (hn : ∀ p ∈ m, p.1 ≠ n) : (m.insert n v).read k = if k = n then v else m.read k := by
  induction m with
  | nil => by_cases hk : k = n <;> simp_all [Memory.insert, Memory.read, eq_comm]
  | cons p m ih =>
    obtain ⟨q, u⟩ := p
    have hq : q ≠ n := hn (q, u) (by simp)
    have hm : ∀ p ∈ m, p.1 ≠ n := fun p hp => hn p (by simp [hp])
    have hr : Memory.read m n = Config.unwrittenByte := by simpa [Memory.read, hq] using h
    by_cases hlt : n < q
    · by_cases hk : k = n <;> simp_all [Memory.insert, Memory.read, eq_comm]
    · by_cases hk : q = k
      · subst hk; simp [Memory.insert, Memory.read, hlt, hq]
      · simp [Memory.insert, Memory.read, hlt, hk, ih hr hm]

theorem Memory.remove_ne (m : Memory) (n : Nat) : ∀ p ∈ m.remove n, p.1 ≠ n := by
  induction m with
  | nil => simp [Memory.remove]
  | cons p m ih =>
    obtain ⟨q, u⟩ := p
    by_cases h : q = n
    · simpa [Memory.remove, h] using ih
    · intro p hp
      simp only [Memory.remove, h, if_false, List.mem_cons] at hp
      rcases hp with rfl | hp
      · exact h
      · exact ih p hp

/-- A byte written is read back, and every other address reads as before; of every list, canonical or not. -/
theorem Memory.read_write (m : Memory) (n : Nat) (v : Byte) (k : Nat) :
    (m.write n v).read k = if k = n then v else m.read k := by
  by_cases hv : v = Config.unwrittenByte
  · simp [Memory.write, hv, Memory.read_remove]
  · rw [Memory.write, if_neg hv,
      Memory.read_insert _ _ _ _ (by simp [Memory.read_remove]) (Memory.remove_ne m n), Memory.read_remove]
    by_cases hk : k = n <;> simp [hk]

/-! ## The canonical form -/

theorem Memory.remove_subset (m : Memory) (n : Nat) : ∀ p ∈ m.remove n, p ∈ m := by
  induction m with
  | nil => simp [Memory.remove]
  | cons p m ih =>
    obtain ⟨q, u⟩ := p
    intro x hx
    by_cases h : q = n
    · simp only [Memory.remove, h, if_true] at hx; exact List.mem_cons_of_mem _ (ih x hx)
    · simp only [Memory.remove, h, if_false, List.mem_cons] at hx
      rcases hx with rfl | hx
      · simp
      · exact List.mem_cons_of_mem _ (ih x hx)

theorem Memory.remove_sorted (m : Memory) (n : Nat) (h : m.Pairwise (fun p q => p.1 < q.1)) :
    (m.remove n).Pairwise (fun p q => p.1 < q.1) := by
  induction m with
  | nil => simp [Memory.remove]
  | cons p m ih =>
    obtain ⟨q, u⟩ := p
    rw [List.pairwise_cons] at h
    by_cases hq : q = n
    · simpa [Memory.remove, hq] using ih h.2
    · simp only [Memory.remove, hq, if_false, List.pairwise_cons]
      exact ⟨fun x hx => h.1 x (Memory.remove_subset m n x hx), ih h.2⟩

theorem Memory.mem_insert (m : Memory) (n : Nat) (v : Byte) :
    ∀ p ∈ m.insert n v, p = (n, v) ∨ p ∈ m := by
  induction m with
  | nil => simp [Memory.insert]
  | cons p m ih =>
    obtain ⟨q, u⟩ := p
    intro x hx
    by_cases h : n < q
    · simpa [Memory.insert, h] using hx
    · simp only [Memory.insert, h, if_false, List.mem_cons] at hx
      rcases hx with rfl | hx
      · simp
      · rcases ih x hx with rfl | hx
        · simp
        · simp [hx]

theorem Memory.insert_sorted (m : Memory) (n : Nat) (v : Byte) (h : m.Pairwise (fun p q => p.1 < q.1))
    (hn : ∀ p ∈ m, p.1 ≠ n) : (m.insert n v).Pairwise (fun p q => p.1 < q.1) := by
  induction m with
  | nil => simp [Memory.insert]
  | cons p m ih =>
    obtain ⟨q, u⟩ := p
    have hs := h
    rw [List.pairwise_cons] at h
    have hq : q ≠ n := hn (q, u) (by simp)
    by_cases hlt : n < q
    · simp only [Memory.insert, hlt, if_true]
      rw [List.pairwise_cons]
      refine ⟨fun x hx => ?_, hs⟩
      rcases List.mem_cons.1 hx with rfl | hx
      · exact hlt
      · exact Nat.lt_trans hlt (h.1 x hx)
    · simp only [Memory.insert, hlt, if_false]
      rw [List.pairwise_cons]
      refine ⟨fun x hx => ?_, ih h.2 (fun p hp => hn p (by simp [hp]))⟩
      rcases Memory.mem_insert m n v x hx with rfl | hx
      · simp only; omega
      · exact h.1 x hx

/-- A write at a canonical address keeps the canonical form. -/
theorem Memory.write_wf (m : Memory) (n : Nat) (v : Byte) (h : m.wf) (hn : IsCellAddr n) : (m.write n v).wf := by
  have hs := Memory.remove_sorted m n h.1
  have he : ∀ p ∈ m.remove n, p.2 ≠ Config.unwrittenByte ∧ IsCellAddr p.1 :=
    fun p hp => h.2 p (Memory.remove_subset m n p hp)
  by_cases hv : v = Config.unwrittenByte
  · rw [Memory.write, if_pos hv]; exact ⟨hs, he⟩
  · rw [Memory.write, if_neg hv]
    refine ⟨Memory.insert_sorted _ n v hs (Memory.remove_ne m n), fun p hp => ?_⟩
    rcases Memory.mem_insert _ n v p hp with rfl | hp
    · exact ⟨hv, hn⟩
    · exact he p hp

theorem reset_mem_wf : State.reset.mem.wf := by decide

/-! ## The echo translation (R45, R60) -/

/-- The translation on numbers. -/
theorem canon_toNat (a : Word) :
    (canon a).toNat = if 0xE000 ≤ a.toNat ∧ a.toNat ≤ 0xFDFF then a.toNat - 0x2000 else a.toNat := by
  have ha := a.isLt
  unfold canon
  simp only [Config.echoBase, Config.echoEnd, Config.wramBase, BitVec.le_def, BitVec.toNat_ofNat]
  by_cases h : 0xE000 ≤ a.toNat ∧ a.toNat ≤ 0xFDFF
  · simp only [Nat.reducePow, Nat.reduceMod, h, and_self, if_true]
    bv_omega
  · simp only [Nat.reducePow, Nat.reduceMod, h, if_false]

theorem canon_isCellAddr (a : Word) : IsCellAddr (canon a).toNat := by
  have ha := a.isLt
  have h := canon_toNat a
  refine ⟨(canon a).isLt, ?_⟩
  simp only [Config.echoBase, Config.echoEnd, BitVec.toNat_ofNat]
  split at h <;> omega

/-- Adjacent addresses never share a cell (R44). -/
theorem canon_succ_ne (a : Word) : canon (a + 1#16) ≠ canon a := by
  intro h
  have h1 := canon_toNat a
  have h2 := canon_toNat (a + 1#16)
  have ha := a.isLt
  have hs : (a + 1#16).toNat = (a.toNat + 1) % 65536 := by simp [BitVec.toNat_add]
  rw [h, hs] at h2
  rw [h2] at h1
  split at h1 <;> split at h1 <;> omega

theorem canon_inj_toNat (a b : Word) : (canon a).toNat = (canon b).toNat ↔ canon a = canon b :=
  ⟨fun h => BitVec.eq_of_toNat_eq h, fun h => by rw [h]⟩

/-! ## Stores -/

@[simp] theorem State.cell_placeByte (s : State) (a b : Word) (v : Byte) :
    (s.placeByte a v).cell b = if canon b = canon a then v else s.cell b := by
  simp [State.cell, State.placeByte, Memory.read_write, canon_inj_toNat]

/-- What the cell of an address holds after a store. -/
theorem State.cell_stored (s : State) (a b : Word) (v : Byte) :
    (s.stored a v).cell b = if canon b = canon a ∧ s.kindAt a ≠ .readOnly then v else s.cell b := by
  unfold State.stored
  split <;> simp_all

/-- An accepted store answers the stored state. -/
theorem storeByte_eq (s : State) (a : Word) (v : Byte) (h : s.Accepts a) : storeByte a v s = .next (s.stored a v) := by
  unfold storeByte
  split
  · exact absurd ‹_› h
  · rfl

/-- A store that is not accepted is refused (R51). -/
theorem storeByte_refused (s : State) (a : Word) (v : Byte) (h : s.kindAt a = .refusing) :
    storeByte a v s = .refused (.externalCartStore (canon a)) := by
  simp [storeByte, h]

/-- What a store can answer: the stored state of an accepted address, or the refusal of an external mapper. -/
theorem storeByte_cases (s : State) (a : Word) (v : Byte) :
    (s.Accepts a ∧ storeByte a v s = .next (s.stored a v)) ∨
      (¬ s.Accepts a ∧ storeByte a v s = .refused (.externalCartStore (canon a))) := by
  by_cases h : s.Accepts a
  · exact .inl ⟨h, storeByte_eq s a v h⟩
  · exact .inr ⟨h, storeByte_refused s a v (by simpa using h)⟩

theorem storeByte_next (s t : State) (a : Word) (v : Byte) (h : storeByte a v s = .next t) :
    s.Accepts a ∧ t = s.stored a v := by
  rcases storeByte_cases s a v with ⟨h1, h2⟩ | ⟨_, h2⟩
  · rw [h2] at h; exact ⟨h1, by cases h; rfl⟩
  · rw [h2] at h; cases h

theorem State.kindAt_eq_of_canon (s : State) (a b : Word) (h : canon a = canon b) : s.kindAt a = s.kindAt b := by
  simp [State.kindAt, h]

/-- A load from another cell does not see the store. -/
theorem State.loadByte_stored_other (s : State) (a b : Word) (v : Byte) (h : canon b ≠ canon a) :
    (s.stored a v).loadByte b = s.loadByte b := by
  simp [State.loadByte, State.readAs, State.cell_stored, h]

/-- A load from the stored cell gives the byte where stores are read back. -/
theorem State.loadByte_stored_same (s : State) (a b : Word) (v : Byte) (h : canon b = canon a)
    (hk : s.kindAt a = .storage) : (s.stored a v).loadByte b = v := by
  have hb : s.kindAt b = .storage := by rw [← hk]; exact State.kindAt_eq_of_canon s b a h
  simp [State.loadByte, State.readAs, hb, State.cell_stored, h, hk]

/-- An address of a region that a load gives a pattern for reads as the pattern, whatever was stored. -/
theorem State.loadByte_constant (s : State) (a b : Word) (v : Byte) (h : canon b = canon a)
    (hk : s.kindAt a = .constant v) : s.loadByte b = v := by
  simp [State.loadByte, State.readAs, State.kindAt_eq_of_canon s b a h, hk]

/-- A store to a region that ignores stores changes nothing. -/
theorem State.stored_readOnly (s : State) (a : Word) (v : Byte) (hk : s.kindAt a = .readOnly) : s.stored a v = s := by
  simp [State.stored, hk]

/-- One accepted store stores exactly its byte. -/
theorem StoresOnly_stored (s : State) (a : Word) (v : Byte) : StoresOnly [(a, v)] s (s.stored a v) := by
  simp only [StoresOnly, List.forall_mem_singleton]
  exact ⟨fun b hb => State.loadByte_stored_other s a b v hb,
    fun b hb hk => State.loadByte_stored_same s a b v hb hk,
    fun b _ hk => by rw [State.stored_readOnly s a v hk],
    fun b u hb hk => State.loadByte_constant _ a b u hb (by simpa using hk)⟩

/-- Two accepted stores at consecutive addresses store exactly their bytes (R44). -/
theorem StoresOnly_stored_two (s : State) (a : Word) (v u : Byte) :
    StoresOnly [(a, v), (a + 1#16, u)] s ((s.stored a v).stored (a + 1#16) u) := by
  have hne := canon_succ_ne a
  have low : ∀ b, canon b = canon a → ((s.stored a v).stored (a + 1#16) u).loadByte b = (s.stored a v).loadByte b :=
    fun b hb => State.loadByte_stored_other _ _ _ _ (by rw [hb]; exact hne.symm)
  simp only [StoresOnly, List.forall_mem_cons, List.not_mem_nil, false_implies, implies_true,
    and_true]
  refine ⟨fun b hb => ?_, ⟨fun b hb hk => ?_, fun b hb hk => ?_⟩, ⟨fun b hb hk => ?_, fun b hb hk => ?_⟩,
    fun b w hb hk => ?_, fun b w hb hk => ?_⟩
  · rw [State.loadByte_stored_other _ _ _ _ hb.2, State.loadByte_stored_other _ _ _ _ hb.1]
  · rw [low b hb, State.loadByte_stored_same _ _ _ _ hb hk]
  · exact State.loadByte_stored_same _ _ _ _ hb (by simpa using hk)
  · rw [low b hb, State.stored_readOnly _ _ _ hk]
  · rw [State.stored_readOnly _ _ _ (by simpa using hk),
      State.loadByte_stored_other _ _ _ _ (by rw [hb]; exact hne)]
  · exact State.loadByte_constant _ a b w hb (by simpa using hk)
  · exact State.loadByte_constant _ (a + 1#16) b w hb (by simpa using hk)

theorem StoresOnly_nil (s t : State) (hm : t.mem = s.mem) (hp : t.platform = s.platform) (hd : t.draws = s.draws) :
    StoresOnly [] s t := ⟨fun a _ => State.loadByte_congr s t a hm hp hd, by simp, by simp, by simp⟩

theorem State.placeByte_wf (s : State) (a : Word) (v : Byte) (h : s.mem.wf) : (s.placeByte a v).mem.wf :=
  Memory.write_wf s.mem _ v h (canon_isCellAddr a)

theorem State.stored_wf (s : State) (a : Word) (v : Byte) (h : s.mem.wf) : (s.stored a v).mem.wf := by
  unfold State.stored
  split
  · exact h
  · exact State.placeByte_wf s a v h

theorem State.placeBytes_wf (vs : List Byte) (s : State) (a : Word) (h : s.mem.wf) : (s.placeBytes a vs).mem.wf := by
  induction vs generalizing s a with
  | nil => exact h
  | cons v vs ih => exact ih _ _ (State.placeByte_wf s a v h)

/-! ## Words and the stack -/

/-- An accepted word store is two byte stores (R44). -/
theorem storeWord_eq (s : State) (a v : Word) (h0 : s.Accepts a) (h1 : s.Accepts (a + 1#16)) :
    storeWord a v s = .next ((s.stored a (loByte v)).stored (a + 1#16) (hiByte v)) := by
  simp [storeWord, storeByte_eq s a _ h0, andThen, storeByte_eq (s.stored a (loByte v)) (a + 1#16) _ (by simpa using h1)]

theorem storeWord_next (s t : State) (a v : Word) (h : storeWord a v s = .next t) :
    s.Accepts a ∧ s.Accepts (a + 1#16) ∧ t = (s.stored a (loByte v)).stored (a + 1#16) (hiByte v) := by
  unfold storeWord at h
  rcases storeByte_cases s a (loByte v) with ⟨h1, h2⟩ | ⟨_, h2⟩
  · rw [h2] at h
    obtain ⟨h3, h4⟩ := storeByte_next _ _ _ _ h
    exact ⟨h1, by simpa using h3, h4⟩
  · rw [h2] at h; simp [andThen] at h

/-- A word store is refused at the first of its two addresses that does not accept it (R44, R51). -/
theorem storeWord_refused_low (s : State) (a v : Word) (h : s.kindAt a = .refusing) :
    storeWord a v s = .refused (.externalCartStore (canon a)) := by
  simp [storeWord, storeByte_refused s a _ h, andThen]

theorem storeWord_refused_high (s : State) (a v : Word) (h0 : s.Accepts a) (h1 : s.kindAt (a + 1#16) = .refusing) :
    storeWord a v s = .refused (.externalCartStore (canon (a + 1#16))) := by
  simp [storeWord, storeByte_eq s a _ h0, andThen,
    storeByte_refused (s.stored a (loByte v)) (a + 1#16) _ (by simpa using h1)]

/-- The word of two bytes (R12). -/
theorem joinBytes_toNat (h l : Byte) : (joinBytes h l).toNat = h.toNat * 256 + l.toNat := by
  have hl := l.isLt
  have : (joinBytes h l).toNat = h.toNat <<< 8 ||| l.toNat := BitVec.toNat_append h l
  rw [this, ← Nat.shiftLeft_add_eq_or_of_lt (by omega), Nat.shiftLeft_eq]

theorem hiByte_toNat (w : Word) : (hiByte w).toNat = w.toNat / 256 := by
  have hw := w.isLt
  simp only [hiByte, BitVec.toNat_setWidth, BitVec.toNat_ushiftRight, Nat.shiftRight_eq_div_pow]
  omega

theorem loByte_toNat (w : Word) : (loByte w).toNat = w.toNat % 256 := by simp [loByte]

/-- The two halves of a word give it back (R13). -/
@[simp] theorem joinBytes_hi_lo (w : Word) : joinBytes (hiByte w) (loByte w) = w := by
  apply BitVec.eq_of_toNat_eq
  rw [joinBytes_toNat, hiByte_toNat, loByte_toNat]
  omega

@[simp] theorem hiByte_joinBytes (h l : Byte) : hiByte (joinBytes h l) = h := by
  have := l.isLt
  apply BitVec.eq_of_toNat_eq
  rw [hiByte_toNat, joinBytes_toNat]
  omega

@[simp] theorem loByte_joinBytes (h l : Byte) : loByte (joinBytes h l) = l := by
  have := l.isLt
  apply BitVec.eq_of_toNat_eq
  rw [loByte_toNat, joinBytes_toNat]
  omega

end Sys2Proof.Machine
end

