-- ==== Sys2Proof/Laws/Decode.lean ====
section
/-! SUPPORT. What the decoder reads from a byte list whose first byte has a format of one, two or three bytes (R71). -/

namespace Sys2Proof

theorem formatOf_length_bounds (op : Byte) : 1 ≤ (formatOf op).length ∧ (formatOf op).length ≤ 3 := by
  cases formatOf op <;> decide

theorem decode_one (b0 : Byte) (rest : List Byte) (h : (formatOf b0).length = 1) :
    decode (b0 :: rest) = .ok (decode3 b0 (rest.getD 0 0) (rest.getD 1 0), rest) := by
  simp [decode, h]

theorem decode_two (b0 b1 : Byte) (rest : List Byte) (h : (formatOf b0).length = 2) :
    decode (b0 :: b1 :: rest) = .ok (decode3 b0 b1 (rest.getD 0 0), rest) := by
  simp [decode, h]

theorem decode_three (b0 b1 b2 : Byte) (rest : List Byte) (h : (formatOf b0).length = 3) :
    decode (b0 :: b1 :: b2 :: rest) = .ok (decode3 b0 b1 b2, rest) := by
  simp [decode, h]

/-- A statement about all bytes is one about 256 numerals. -/
theorem byte_cases (P : Byte → Prop) (h : ∀ k : Fin 256, P (BitVec.ofNat 8 k.val)) (b : Byte) : P b := by
  simpa using h ⟨b.toNat, b.isLt⟩

end Sys2Proof
end

