-- ==== Sys2Proof/Laws/Exec.lean ====
section
/-! SUPPORT. The rows of a family run the family's shared operation: one lemma per family, which proofs cite instead of
the dispatch. -/

namespace Sys2Proof.Machine

theorem exec_ldRR (d r : Reg8) (s : State) :
    exec (ldRR d r) s = ld8 (.reg d) (.loc (.reg r)) s := by
  cases d <;> cases r <;> rfl

theorem exec_ldRN (d : Reg8) (n : Byte) (s : State) :
    exec (ldRN d n) s = ld8 (.reg d) (.imm n) s := by
  cases d <;> rfl

theorem exec_ldRM (d : Reg8) (s : State) :
    exec (ldRM d) s = ld8 (.reg d) (.loc (.ind .HL .none)) s := by
  cases d <;> rfl

theorem exec_ldMR (r : Reg8) (s : State) :
    exec (ldMR r) s = ld8 (.ind .HL .none) (.loc (.reg r)) s := by
  cases r <;> rfl

theorem exec_ldPairNN (p : Pair) (nn : Word) (s : State) :
    exec (ldPairNN p nn) s = ld16 (.reg (pairReg p)) (.imm nn) s := by
  cases p <;> rfl

theorem exec_pushP (p : StackPair) (s : State) :
    exec (pushP p) s = push16 (stackPairReg p) s := by
  cases p <;> rfl

theorem exec_popP (p : StackPair) (s : State) :
    exec (popP p) s = pop16 (stackPairReg p) s := by
  cases p <;> rfl

theorem exec_aluP (op : AluOp) (x : Place8) (s : State) :
    exec (aluP op x) s = aluAcc op (.loc (placeLoc x)) s := by
  cases op <;> rcases x with _ | _ <;> first | rfl | (rename_i r; cases r <;> rfl)

theorem exec_aluN (op : AluOp) (n : Byte) (s : State) :
    exec (aluN op n) s = aluAcc op (.imm n) s := by
  cases op <;> rfl

theorem exec_incP (x : Place8) (s : State) :
    exec (incP x) s = incLoc (placeLoc x) s := by
  rcases x with r | _ <;> first | rfl | (cases r <;> rfl)

theorem exec_decP (x : Place8) (s : State) :
    exec (decP x) s = decLoc (placeLoc x) s := by
  rcases x with r | _ <;> first | rfl | (cases r <;> rfl)

theorem exec_addHL (p : Pair) (s : State) :
    exec (addHL p) s = addHLPair (pairReg p) s := by
  cases p <;> rfl

theorem exec_incPair (p : Pair) (s : State) :
    exec (incPair p) s = inc16 (pairReg p) s := by
  cases p <;> rfl

theorem exec_decPair (p : Pair) (s : State) :
    exec (decPair p) s = dec16 (pairReg p) s := by
  cases p <;> rfl

theorem exec_rotP (op : RotOp) (x : Place8) (s : State) :
    exec (rotP op x) s = rotLoc op (placeLoc x) s := by
  cases op <;> rcases x with _ | _ <;> first | rfl | (rename_i r; cases r <;> rfl)

theorem exec_bitP (k : Fin 8) (x : Place8) (s : State) :
    exec (bitP k x) s = bitLoc k (placeLoc x) s := by
  fin_cases k <;> rcases x with _ | _ <;> first | rfl | (rename_i r; cases r <;> rfl)

theorem exec_resP (k : Fin 8) (x : Place8) (s : State) :
    exec (resP k x) s = resLoc k (placeLoc x) s := by
  fin_cases k <;> rcases x with _ | _ <;> first | rfl | (rename_i r; cases r <;> rfl)

theorem exec_setP (k : Fin 8) (x : Place8) (s : State) :
    exec (setP k x) s = setLoc k (placeLoc x) s := by
  fin_cases k <;> rcases x with _ | _ <;> first | rfl | (rename_i r; cases r <;> rfl)

theorem exec_jpCC (cc : Cond) (nn : Word) (s : State) :
    exec (jpCC cc nn) s = whenCond cc (jump nn) s := by
  cases cc <;> rfl

theorem exec_jrCC (cc : Cond) (e : Byte) (s : State) :
    exec (jrCC cc e) s = whenCond cc (jumpRel e) s := by
  cases cc <;> rfl

theorem exec_callCC (cc : Cond) (nn : Word) (s : State) :
    exec (callCC cc nn) s = whenCond cc (call nn) s := by
  cases cc <;> rfl

theorem exec_retCC (cc : Cond) (s : State) :
    exec (retCC cc) s = whenCond cc ret s := by
  cases cc <;> rfl

theorem exec_rstT (t : Fin 8) (s : State) :
    exec (rstT t) s = call (BitVec.ofNat 16 (8 * t.val)) s := by
  fin_cases t <;> rfl

theorem exec_undefinedOp (u : UndefinedOp) (s : State) :
    exec (undefinedOp u) s = raiseDecodeFault (undefinedOpByte u) s := by
  cases u <;> rfl

end Sys2Proof.Machine
end

