-- ==== Sys2Proof/Laws/Operations.lean ====
section
/-! SUPPORT. What each shared operation does, said once in the words of Safety.lean. -/

namespace Sys2Proof

/-! ## Sign extension (R77) -/

theorem e8_eq_toInt (e : Byte) : e8 e = e.toInt := by
  have := e.isLt
  unfold e8 BitVec.toInt
  split <;> split <;> omega

theorem sext16_eq_ofInt (e : Byte) : sext16 e = BitVec.ofInt 16 e.toInt := by
  revert e; decide

namespace Machine

/-! ## Results -/

theorem andThen_next (o : Result) (k : State → Result) (t : State) :
    andThen o k = .next t ↔ ∃ u, o = .next u ∧ k u = .next t := by
  cases o <;> simp [andThen]

theorem andThen_refused (o : Result) (k : State → Result) (r : Refusal) :
    andThen o k = .refused r ↔ o = .refused r ∨ ∃ u, o = .next u ∧ k u = .refused r := by
  cases o <;> simp [andThen]

/-! ## Flags (R15 to R17) -/

theorem FlagsAre_setFlags (s : State) (z n h c : Bool) : FlagsAre (s.setFlags z n h c) z n h c := by
  refine ⟨by simp, by simp, by simp, by simp, ?_⟩
  rw [State.setFlags_f]
  cases z <;> cases n <;> cases h <;> cases c <;> decide

theorem FlagsAre_setOutFlags (s : State) (o : AluOut) : FlagsAre (s.setOutFlags o) o.z o.n o.h o.c :=
  FlagsAre_setFlags s o.z o.n o.h o.c

/-! ## Writes of registers -/

theorem ChangesRegs_setReg8 (s : State) (d : Reg8) (v : Byte) : ChangesRegs [d] s (s.setReg8 d v) := by
  refine ⟨fun r hr => State.reg8_setReg8_ne _ _ _ _ (by simpa using hr), by simp, by simp, by simp [KeepsControl],
    fun a => by simp⟩

theorem ChangesRegs_setFlags (ws : List Reg8) (s t : State) (z n h c : Bool) (hc : ChangesRegs ws s t) :
    ChangesRegs ws s (t.setFlags z n h c) := by
  obtain ⟨h1, h2, h3, h4, h5⟩ := hc
  exact ⟨fun r hr => by simp [h1 r hr], by simp [h2], by simp [h3], by simpa [KeepsControl] using h4,
    fun a => by simp [h5 a]⟩

theorem reg16_setReg16_self (s : State) (rr : Reg16) (v : Word) (h : rr ≠ .AF) : (s.setReg16 rr v).reg16 rr = v := by
  cases rr <;> simp_all [State.setReg16, State.reg16]

theorem KeepsRegs_setReg16 (s : State) (rr : Reg16) (v : Word) : KeepsRegs (halves rr) s (s.setReg16 rr v) := by
  intro r hr
  cases rr <;> cases r <;> first | rfl | exact absurd (by decide) hr

/-! ## Stores -/

theorem ChangesCells_stored (s : State) (a : Word) (v : Byte) : ChangesCells [(a, v)] [] s (s.stored a v) :=
  ⟨fun r _ => by simp, by simp, by simp, by simp [KeepsControl], StoresOnly_stored _ _ _⟩

theorem ChangesCells_setFlags (ws : List (Word × Byte)) (rs : List Reg8) (s t : State) (z n h c : Bool)
    (hc : ChangesCells ws rs s t) : ChangesCells ws rs s (t.setFlags z n h c) := by
  obtain ⟨h1, h2, h3, h4, h5⟩ := hc
  exact ⟨fun r hr => by simp [h1 r hr], by simp [h2], by simp [h3], by simpa [KeepsControl] using h4,
    by simpa [StoresOnly] using h5⟩

/-- Which address refuses depends on the platform alone. -/
theorem State.firstRefusing_congr (s t : State) (as : List Word) (h : t.platform = s.platform) :
    t.firstRefusing as = s.firstRefusing as := by
  unfold State.firstRefusing State.kindAt
  rw [h]

@[simp] theorem State.firstRefusing_nil (s : State) : s.firstRefusing [] = none := rfl

/-- A byte store answers a next state exactly where its address accepts it, and is refused otherwise (R42, R51). -/
theorem storeByte_answers (s : State) (a : Word) (v : Byte) :
    match s.firstRefusing [a] with
    | some b => storeByte a v s = .refused (.externalCartStore (canon b))
    | none => ∃ t, storeByte a v s = .next t := by
  by_cases h : s.kindAt a = .refusing
  · simp [State.firstRefusing, h, storeByte_refused]
  · simp [State.firstRefusing, h, storeByte_eq s a v h]

/-- A word store is refused at the first of its two addresses that does not accept it (R44, R51). -/
theorem storeWord_answers (s : State) (a v : Word) :
    match s.firstRefusing (wordAddrs a) with
    | some b => storeWord a v s = .refused (.externalCartStore (canon b))
    | none => ∃ t, storeWord a v s = .next t := by
  unfold State.firstRefusing wordAddrs
  by_cases h0 : s.kindAt a = .refusing
  · simp [h0, storeWord_refused_low]
  by_cases h1 : s.kindAt (a + 1#16) = .refusing
  · simp [h0, h1, storeWord_refused_high s a v h0 h1]
  · simp [h0, h1, storeWord_eq s a v h0 h1]

/-- A push: the only way it answers a next state, and what that state is (R154). -/
theorem pushWord_next (s : State) (v : Word) (h0 : s.Accepts (s.sp - 2#16)) (h1 : s.Accepts (s.sp - 2#16 + 1#16)) :
    ∃ t, pushWord v s = .next t ∧ t.sp = s.sp - 2#16 ∧ t.pc = s.pc ∧
      TransfersOnly (wordCells (s.sp - 2#16) v) s t := by
  refine ⟨_, storeWord_eq { s with sp := s.sp - 2#16 } _ _ h0 h1, by simp, by simp, fun r _ => ?_, by simp,
    by simp [KeepsControl], StoresOnly_stored_two { s with sp := s.sp - 2#16 } _ _ _⟩
  cases r <;> simp [State.reg8]

/-! ## Operands of an `r` field (R72, R79, R80) -/

theorem placeLoc_load (s : State) (x : Place8) : (placeLoc x).load s = placeValue s x := by cases x <;> rfl

/-- A store to an operand: where it can be written it completes, and only the operand changes. -/
theorem placeLoc_store (s : State) (x : Place8) (v : Byte) (h : placeWritable s x) :
    ∃ t, (placeLoc x).store v s = .next t ∧ WritesPlace x v s t ∧ t.f = s.f := by
  cases x with
  | reg r => exact ⟨_, rfl, ⟨by simp, ChangesRegs_setReg8 s r v⟩, by simp⟩
  | mHL =>
    refine ⟨s.stored (s.reg16 .HL) v, ?_, ChangesCells_stored s _ v, by simp⟩
    simp [placeLoc, Loc8.store, Loc8.after, andThen, storeByte_eq s _ v h]

theorem WritesPlace_setFlags (x : Place8) (v : Byte) (s t : State) (z n h c : Bool) (hw : WritesPlace x v s t) :
    WritesPlace x v s (t.setFlags z n h c) := by
  cases x with
  | reg r => exact ⟨by simpa using hw.1, ChangesRegs_setFlags _ _ _ _ _ _ _ hw.2⟩
  | mHL => exact ChangesCells_setFlags _ _ _ _ _ _ _ _ hw

/-! ## The run state -/

theorem step_steppable (s : State) (h : s.run.steppable = true) : step s = exec s.fetchInstr (s.advance s.fetchInstr) := by
  simp [step, h]

theorem step_stopped (s : State) (h : s.run.steppable = false) : step s = .next s := by
  simp [step, h, holdState]

end Machine
end Sys2Proof
end

