-- ==== Sys2Proof/Laws/Shape.lean ====
section
/-! SUPPORT. Which shared operation each row runs, with its parameters: a proof about all instructions goes through the
35 operations and not through the 511 arms. -/

namespace Sys2Proof.Machine

/-- The shared operations with their parameters. -/
inductive Shape where
  | ld8 (dst : Loc8) (src : Src8)
  | ld16 (dst : Dst16) (src : Src16)
  | ldHLSPe (e : Byte)
  | push16 (rr : Reg16)
  | pop16 (rr : Reg16)
  | aluAcc (op : AluOp) (src : Src8)
  | incLoc (x : Loc8)
  | decLoc (x : Loc8)
  | adjustDecimal
  | complementA
  | setCarry
  | complementCarry
  | addHLPair (rr : Reg16)
  | inc16 (rr : Reg16)
  | dec16 (rr : Reg16)
  | addSPe (e : Byte)
  | rotAcc (op : RotOp)
  | rotLoc (op : RotOp) (x : Loc8)
  | bitLoc (b : Fin 8) (x : Loc8)
  | resLoc (b : Fin 8) (x : Loc8)
  | setLoc (b : Fin 8) (x : Loc8)
  | jump (nn : Word)
  | jumpHL
  | jumpRel (e : Byte)
  | call (nn : Word)
  | ret
  | retEnable
  | jumpIf (cc : Cond) (nn : Word)
  | jumpRelIf (cc : Cond) (e : Byte)
  | callIf (cc : Cond) (nn : Word)
  | retIf (cc : Cond)
  | nop
  | lowPower (k : LowPowerKind)
  | setIme (v : Bool)
  | decodeFault (op : Byte)
deriving DecidableEq, Repr

/-- The operation. -/
def Shape.run (x : Shape) (s : State) : Result :=
  match x with
  | .ld8 dst src => Machine.ld8 dst src s
  | .ld16 dst src => Machine.ld16 dst src s
  | .ldHLSPe e => Machine.ldHLSPe e s
  | .push16 rr => Machine.push16 rr s
  | .pop16 rr => Machine.pop16 rr s
  | .aluAcc op src => Machine.aluAcc op src s
  | .incLoc x => Machine.incLoc x s
  | .decLoc x => Machine.decLoc x s
  | .adjustDecimal => Machine.adjustDecimal s
  | .complementA => Machine.complementA s
  | .setCarry => Machine.setCarry s
  | .complementCarry => Machine.complementCarry s
  | .addHLPair rr => Machine.addHLPair rr s
  | .inc16 rr => Machine.inc16 rr s
  | .dec16 rr => Machine.dec16 rr s
  | .addSPe e => Machine.addSPe e s
  | .rotAcc op => Machine.rotAcc op s
  | .rotLoc op x => Machine.rotLoc op x s
  | .bitLoc b x => Machine.bitLoc b x s
  | .resLoc b x => Machine.resLoc b x s
  | .setLoc b x => Machine.setLoc b x s
  | .jump nn => Machine.jump nn s
  | .jumpHL => Machine.jump (s.reg16 .HL) s
  | .jumpRel e => Machine.jumpRel e s
  | .call nn => Machine.call nn s
  | .ret => Machine.ret s
  | .retEnable => Machine.retEnable s
  | .jumpIf cc nn => whenCond cc (Machine.jump nn) s
  | .jumpRelIf cc e => whenCond cc (Machine.jumpRel e) s
  | .callIf cc nn => whenCond cc (Machine.call nn) s
  | .retIf cc => whenCond cc Machine.ret s
  | .nop => .next s
  | .lowPower k => enterLowPower k s
  | .setIme v => Machine.setIme v s
  | .decodeFault op => raiseDecodeFault op s

/-- The operation of each row. -/
def shapeOf : Instr → Shape
  | .ld_B_B => .ld8 (.reg .B) (.loc (.reg .B))
  | .ld_B_C => .ld8 (.reg .B) (.loc (.reg .C))
  | .ld_B_D => .ld8 (.reg .B) (.loc (.reg .D))
  | .ld_B_E => .ld8 (.reg .B) (.loc (.reg .E))
  | .ld_B_H => .ld8 (.reg .B) (.loc (.reg .H))
  | .ld_B_L => .ld8 (.reg .B) (.loc (.reg .L))
  | .ld_B_A => .ld8 (.reg .B) (.loc (.reg .A))
  | .ld_C_B => .ld8 (.reg .C) (.loc (.reg .B))
  | .ld_C_C => .ld8 (.reg .C) (.loc (.reg .C))
  | .ld_C_D => .ld8 (.reg .C) (.loc (.reg .D))
  | .ld_C_E => .ld8 (.reg .C) (.loc (.reg .E))
  | .ld_C_H => .ld8 (.reg .C) (.loc (.reg .H))
  | .ld_C_L => .ld8 (.reg .C) (.loc (.reg .L))
  | .ld_C_A => .ld8 (.reg .C) (.loc (.reg .A))
  | .ld_D_B => .ld8 (.reg .D) (.loc (.reg .B))
  | .ld_D_C => .ld8 (.reg .D) (.loc (.reg .C))
  | .ld_D_D => .ld8 (.reg .D) (.loc (.reg .D))
  | .ld_D_E => .ld8 (.reg .D) (.loc (.reg .E))
  | .ld_D_H => .ld8 (.reg .D) (.loc (.reg .H))
  | .ld_D_L => .ld8 (.reg .D) (.loc (.reg .L))
  | .ld_D_A => .ld8 (.reg .D) (.loc (.reg .A))
  | .ld_E_B => .ld8 (.reg .E) (.loc (.reg .B))
  | .ld_E_C => .ld8 (.reg .E) (.loc (.reg .C))
  | .ld_E_D => .ld8 (.reg .E) (.loc (.reg .D))
  | .ld_E_E => .ld8 (.reg .E) (.loc (.reg .E))
  | .ld_E_H => .ld8 (.reg .E) (.loc (.reg .H))
  | .ld_E_L => .ld8 (.reg .E) (.loc (.reg .L))
  | .ld_E_A => .ld8 (.reg .E) (.loc (.reg .A))
  | .ld_H_B => .ld8 (.reg .H) (.loc (.reg .B))
  | .ld_H_C => .ld8 (.reg .H) (.loc (.reg .C))
  | .ld_H_D => .ld8 (.reg .H) (.loc (.reg .D))
  | .ld_H_E => .ld8 (.reg .H) (.loc (.reg .E))
  | .ld_H_H => .ld8 (.reg .H) (.loc (.reg .H))
  | .ld_H_L => .ld8 (.reg .H) (.loc (.reg .L))
  | .ld_H_A => .ld8 (.reg .H) (.loc (.reg .A))
  | .ld_L_B => .ld8 (.reg .L) (.loc (.reg .B))
  | .ld_L_C => .ld8 (.reg .L) (.loc (.reg .C))
  | .ld_L_D => .ld8 (.reg .L) (.loc (.reg .D))
  | .ld_L_E => .ld8 (.reg .L) (.loc (.reg .E))
  | .ld_L_H => .ld8 (.reg .L) (.loc (.reg .H))
  | .ld_L_L => .ld8 (.reg .L) (.loc (.reg .L))
  | .ld_L_A => .ld8 (.reg .L) (.loc (.reg .A))
  | .ld_A_B => .ld8 (.reg .A) (.loc (.reg .B))
  | .ld_A_C => .ld8 (.reg .A) (.loc (.reg .C))
  | .ld_A_D => .ld8 (.reg .A) (.loc (.reg .D))
  | .ld_A_E => .ld8 (.reg .A) (.loc (.reg .E))
  | .ld_A_H => .ld8 (.reg .A) (.loc (.reg .H))
  | .ld_A_L => .ld8 (.reg .A) (.loc (.reg .L))
  | .ld_A_A => .ld8 (.reg .A) (.loc (.reg .A))
  | .ld_B_n n => .ld8 (.reg .B) (.imm n)
  | .ld_C_n n => .ld8 (.reg .C) (.imm n)
  | .ld_D_n n => .ld8 (.reg .D) (.imm n)
  | .ld_E_n n => .ld8 (.reg .E) (.imm n)
  | .ld_H_n n => .ld8 (.reg .H) (.imm n)
  | .ld_L_n n => .ld8 (.reg .L) (.imm n)
  | .ld_A_n n => .ld8 (.reg .A) (.imm n)
  | .ld_B_mHL => .ld8 (.reg .B) (.loc (.ind .HL .none))
  | .ld_C_mHL => .ld8 (.reg .C) (.loc (.ind .HL .none))
  | .ld_D_mHL => .ld8 (.reg .D) (.loc (.ind .HL .none))
  | .ld_E_mHL => .ld8 (.reg .E) (.loc (.ind .HL .none))
  | .ld_H_mHL => .ld8 (.reg .H) (.loc (.ind .HL .none))
  | .ld_L_mHL => .ld8 (.reg .L) (.loc (.ind .HL .none))
  | .ld_A_mHL => .ld8 (.reg .A) (.loc (.ind .HL .none))
  | .ld_mHL_B => .ld8 (.ind .HL .none) (.loc (.reg .B))
  | .ld_mHL_C => .ld8 (.ind .HL .none) (.loc (.reg .C))
  | .ld_mHL_D => .ld8 (.ind .HL .none) (.loc (.reg .D))
  | .ld_mHL_E => .ld8 (.ind .HL .none) (.loc (.reg .E))
  | .ld_mHL_H => .ld8 (.ind .HL .none) (.loc (.reg .H))
  | .ld_mHL_L => .ld8 (.ind .HL .none) (.loc (.reg .L))
  | .ld_mHL_A => .ld8 (.ind .HL .none) (.loc (.reg .A))
  | .ld_mHL_n n => .ld8 (.ind .HL .none) (.imm n)
  | .ld_A_mBC => .ld8 (.reg .A) (.loc (.ind .BC .none))
  | .ld_A_mDE => .ld8 (.reg .A) (.loc (.ind .DE .none))
  | .ld_mBC_A => .ld8 (.ind .BC .none) (.loc (.reg .A))
  | .ld_mDE_A => .ld8 (.ind .DE .none) (.loc (.reg .A))
  | .ld_A_mnn nn => .ld8 (.reg .A) (.loc (.abs nn))
  | .ld_mnn_A nn => .ld8 (.abs nn) (.loc (.reg .A))
  | .ldh_A_mn n => .ld8 (.reg .A) (.loc (.highImm n))
  | .ldh_mn_A n => .ld8 (.highImm n) (.loc (.reg .A))
  | .ld_A_mC => .ld8 (.reg .A) (.loc .highC)
  | .ld_mC_A => .ld8 .highC (.loc (.reg .A))
  | .ld_mHLi_A => .ld8 (.ind .HL .inc) (.loc (.reg .A))
  | .ld_A_mHLi => .ld8 (.reg .A) (.loc (.ind .HL .inc))
  | .ld_mHLd_A => .ld8 (.ind .HL .dec) (.loc (.reg .A))
  | .ld_A_mHLd => .ld8 (.reg .A) (.loc (.ind .HL .dec))
  | .ld_BC_nn nn => .ld16 (.reg .BC) (.imm nn)
  | .ld_DE_nn nn => .ld16 (.reg .DE) (.imm nn)
  | .ld_HL_nn nn => .ld16 (.reg .HL) (.imm nn)
  | .ld_SP_nn nn => .ld16 (.reg .SP) (.imm nn)
  | .ld_mnn_SP nn => .ld16 (.abs nn) (.reg .SP)
  | .ld_SP_HL => .ld16 (.reg .SP) (.reg .HL)
  | .ld_HL_SPe e => .ldHLSPe e
  | .push_BC => .push16 .BC
  | .push_DE => .push16 .DE
  | .push_HL => .push16 .HL
  | .push_AF => .push16 .AF
  | .pop_BC => .pop16 .BC
  | .pop_DE => .pop16 .DE
  | .pop_HL => .pop16 .HL
  | .pop_AF => .pop16 .AF
  | .add_A_B => .aluAcc .ADD (.loc (.reg .B))
  | .add_A_C => .aluAcc .ADD (.loc (.reg .C))
  | .add_A_D => .aluAcc .ADD (.loc (.reg .D))
  | .add_A_E => .aluAcc .ADD (.loc (.reg .E))
  | .add_A_H => .aluAcc .ADD (.loc (.reg .H))
  | .add_A_L => .aluAcc .ADD (.loc (.reg .L))
  | .add_A_mHL => .aluAcc .ADD (.loc (.ind .HL .none))
  | .add_A_A => .aluAcc .ADD (.loc (.reg .A))
  | .add_A_n n => .aluAcc .ADD (.imm n)
  | .adc_A_B => .aluAcc .ADC (.loc (.reg .B))
  | .adc_A_C => .aluAcc .ADC (.loc (.reg .C))
  | .adc_A_D => .aluAcc .ADC (.loc (.reg .D))
  | .adc_A_E => .aluAcc .ADC (.loc (.reg .E))
  | .adc_A_H => .aluAcc .ADC (.loc (.reg .H))
  | .adc_A_L => .aluAcc .ADC (.loc (.reg .L))
  | .adc_A_mHL => .aluAcc .ADC (.loc (.ind .HL .none))
  | .adc_A_A => .aluAcc .ADC (.loc (.reg .A))
  | .adc_A_n n => .aluAcc .ADC (.imm n)
  | .sub_B => .aluAcc .SUB (.loc (.reg .B))
  | .sub_C => .aluAcc .SUB (.loc (.reg .C))
  | .sub_D => .aluAcc .SUB (.loc (.reg .D))
  | .sub_E => .aluAcc .SUB (.loc (.reg .E))
  | .sub_H => .aluAcc .SUB (.loc (.reg .H))
  | .sub_L => .aluAcc .SUB (.loc (.reg .L))
  | .sub_mHL => .aluAcc .SUB (.loc (.ind .HL .none))
  | .sub_A => .aluAcc .SUB (.loc (.reg .A))
  | .sub_n n => .aluAcc .SUB (.imm n)
  | .sbc_A_B => .aluAcc .SBC (.loc (.reg .B))
  | .sbc_A_C => .aluAcc .SBC (.loc (.reg .C))
  | .sbc_A_D => .aluAcc .SBC (.loc (.reg .D))
  | .sbc_A_E => .aluAcc .SBC (.loc (.reg .E))
  | .sbc_A_H => .aluAcc .SBC (.loc (.reg .H))
  | .sbc_A_L => .aluAcc .SBC (.loc (.reg .L))
  | .sbc_A_mHL => .aluAcc .SBC (.loc (.ind .HL .none))
  | .sbc_A_A => .aluAcc .SBC (.loc (.reg .A))
  | .sbc_A_n n => .aluAcc .SBC (.imm n)
  | .and_B => .aluAcc .AND (.loc (.reg .B))
  | .and_C => .aluAcc .AND (.loc (.reg .C))
  | .and_D => .aluAcc .AND (.loc (.reg .D))
  | .and_E => .aluAcc .AND (.loc (.reg .E))
  | .and_H => .aluAcc .AND (.loc (.reg .H))
  | .and_L => .aluAcc .AND (.loc (.reg .L))
  | .and_mHL => .aluAcc .AND (.loc (.ind .HL .none))
  | .and_A => .aluAcc .AND (.loc (.reg .A))
  | .and_n n => .aluAcc .AND (.imm n)
  | .xor_B => .aluAcc .XOR (.loc (.reg .B))
  | .xor_C => .aluAcc .XOR (.loc (.reg .C))
  | .xor_D => .aluAcc .XOR (.loc (.reg .D))
  | .xor_E => .aluAcc .XOR (.loc (.reg .E))
  | .xor_H => .aluAcc .XOR (.loc (.reg .H))
  | .xor_L => .aluAcc .XOR (.loc (.reg .L))
  | .xor_mHL => .aluAcc .XOR (.loc (.ind .HL .none))
  | .xor_A => .aluAcc .XOR (.loc (.reg .A))
  | .xor_n n => .aluAcc .XOR (.imm n)
  | .or_B => .aluAcc .OR (.loc (.reg .B))
  | .or_C => .aluAcc .OR (.loc (.reg .C))
  | .or_D => .aluAcc .OR (.loc (.reg .D))
  | .or_E => .aluAcc .OR (.loc (.reg .E))
  | .or_H => .aluAcc .OR (.loc (.reg .H))
  | .or_L => .aluAcc .OR (.loc (.reg .L))
  | .or_mHL => .aluAcc .OR (.loc (.ind .HL .none))
  | .or_A => .aluAcc .OR (.loc (.reg .A))
  | .or_n n => .aluAcc .OR (.imm n)
  | .cp_B => .aluAcc .CP (.loc (.reg .B))
  | .cp_C => .aluAcc .CP (.loc (.reg .C))
  | .cp_D => .aluAcc .CP (.loc (.reg .D))
  | .cp_E => .aluAcc .CP (.loc (.reg .E))
  | .cp_H => .aluAcc .CP (.loc (.reg .H))
  | .cp_L => .aluAcc .CP (.loc (.reg .L))
  | .cp_mHL => .aluAcc .CP (.loc (.ind .HL .none))
  | .cp_A => .aluAcc .CP (.loc (.reg .A))
  | .cp_n n => .aluAcc .CP (.imm n)
  | .inc_B => .incLoc (.reg .B)
  | .inc_C => .incLoc (.reg .C)
  | .inc_D => .incLoc (.reg .D)
  | .inc_E => .incLoc (.reg .E)
  | .inc_H => .incLoc (.reg .H)
  | .inc_L => .incLoc (.reg .L)
  | .inc_mHL => .incLoc (.ind .HL .none)
  | .inc_A => .incLoc (.reg .A)
  | .dec_B => .decLoc (.reg .B)
  | .dec_C => .decLoc (.reg .C)
  | .dec_D => .decLoc (.reg .D)
  | .dec_E => .decLoc (.reg .E)
  | .dec_H => .decLoc (.reg .H)
  | .dec_L => .decLoc (.reg .L)
  | .dec_mHL => .decLoc (.ind .HL .none)
  | .dec_A => .decLoc (.reg .A)
  | .daa => .adjustDecimal
  | .cpl => .complementA
  | .scf => .setCarry
  | .ccf => .complementCarry
  | .add_HL_BC => .addHLPair .BC
  | .add_HL_DE => .addHLPair .DE
  | .add_HL_HL => .addHLPair .HL
  | .add_HL_SP => .addHLPair .SP
  | .inc_BC => .inc16 .BC
  | .inc_DE => .inc16 .DE
  | .inc_HL => .inc16 .HL
  | .inc_SP => .inc16 .SP
  | .dec_BC => .dec16 .BC
  | .dec_DE => .dec16 .DE
  | .dec_HL => .dec16 .HL
  | .dec_SP => .dec16 .SP
  | .add_SP_e e => .addSPe e
  | .rlca => .rotAcc .RLC
  | .rrca => .rotAcc .RRC
  | .rla => .rotAcc .RL
  | .rra => .rotAcc .RR
  | .rlc_B => .rotLoc .RLC (.reg .B)
  | .rlc_C => .rotLoc .RLC (.reg .C)
  | .rlc_D => .rotLoc .RLC (.reg .D)
  | .rlc_E => .rotLoc .RLC (.reg .E)
  | .rlc_H => .rotLoc .RLC (.reg .H)
  | .rlc_L => .rotLoc .RLC (.reg .L)
  | .rlc_mHL => .rotLoc .RLC (.ind .HL .none)
  | .rlc_A => .rotLoc .RLC (.reg .A)
  | .rrc_B => .rotLoc .RRC (.reg .B)
  | .rrc_C => .rotLoc .RRC (.reg .C)
  | .rrc_D => .rotLoc .RRC (.reg .D)
  | .rrc_E => .rotLoc .RRC (.reg .E)
  | .rrc_H => .rotLoc .RRC (.reg .H)
  | .rrc_L => .rotLoc .RRC (.reg .L)
  | .rrc_mHL => .rotLoc .RRC (.ind .HL .none)
  | .rrc_A => .rotLoc .RRC (.reg .A)
  | .rl_B => .rotLoc .RL (.reg .B)
  | .rl_C => .rotLoc .RL (.reg .C)
  | .rl_D => .rotLoc .RL (.reg .D)
  | .rl_E => .rotLoc .RL (.reg .E)
  | .rl_H => .rotLoc .RL (.reg .H)
  | .rl_L => .rotLoc .RL (.reg .L)
  | .rl_mHL => .rotLoc .RL (.ind .HL .none)
  | .rl_A => .rotLoc .RL (.reg .A)
  | .rr_B => .rotLoc .RR (.reg .B)
  | .rr_C => .rotLoc .RR (.reg .C)
  | .rr_D => .rotLoc .RR (.reg .D)
  | .rr_E => .rotLoc .RR (.reg .E)
  | .rr_H => .rotLoc .RR (.reg .H)
  | .rr_L => .rotLoc .RR (.reg .L)
  | .rr_mHL => .rotLoc .RR (.ind .HL .none)
  | .rr_A => .rotLoc .RR (.reg .A)
  | .sla_B => .rotLoc .SLA (.reg .B)
  | .sla_C => .rotLoc .SLA (.reg .C)
  | .sla_D => .rotLoc .SLA (.reg .D)
  | .sla_E => .rotLoc .SLA (.reg .E)
  | .sla_H => .rotLoc .SLA (.reg .H)
  | .sla_L => .rotLoc .SLA (.reg .L)
  | .sla_mHL => .rotLoc .SLA (.ind .HL .none)
  | .sla_A => .rotLoc .SLA (.reg .A)
  | .sra_B => .rotLoc .SRA (.reg .B)
  | .sra_C => .rotLoc .SRA (.reg .C)
  | .sra_D => .rotLoc .SRA (.reg .D)
  | .sra_E => .rotLoc .SRA (.reg .E)
  | .sra_H => .rotLoc .SRA (.reg .H)
  | .sra_L => .rotLoc .SRA (.reg .L)
  | .sra_mHL => .rotLoc .SRA (.ind .HL .none)
  | .sra_A => .rotLoc .SRA (.reg .A)
  | .swap_B => .rotLoc .SWAP (.reg .B)
  | .swap_C => .rotLoc .SWAP (.reg .C)
  | .swap_D => .rotLoc .SWAP (.reg .D)
  | .swap_E => .rotLoc .SWAP (.reg .E)
  | .swap_H => .rotLoc .SWAP (.reg .H)
  | .swap_L => .rotLoc .SWAP (.reg .L)
  | .swap_mHL => .rotLoc .SWAP (.ind .HL .none)
  | .swap_A => .rotLoc .SWAP (.reg .A)
  | .srl_B => .rotLoc .SRL (.reg .B)
  | .srl_C => .rotLoc .SRL (.reg .C)
  | .srl_D => .rotLoc .SRL (.reg .D)
  | .srl_E => .rotLoc .SRL (.reg .E)
  | .srl_H => .rotLoc .SRL (.reg .H)
  | .srl_L => .rotLoc .SRL (.reg .L)
  | .srl_mHL => .rotLoc .SRL (.ind .HL .none)
  | .srl_A => .rotLoc .SRL (.reg .A)
  | .bit_0_B => .bitLoc 0 (.reg .B)
  | .bit_0_C => .bitLoc 0 (.reg .C)
  | .bit_0_D => .bitLoc 0 (.reg .D)
  | .bit_0_E => .bitLoc 0 (.reg .E)
  | .bit_0_H => .bitLoc 0 (.reg .H)
  | .bit_0_L => .bitLoc 0 (.reg .L)
  | .bit_0_mHL => .bitLoc 0 (.ind .HL .none)
  | .bit_0_A => .bitLoc 0 (.reg .A)
  | .bit_1_B => .bitLoc 1 (.reg .B)
  | .bit_1_C => .bitLoc 1 (.reg .C)
  | .bit_1_D => .bitLoc 1 (.reg .D)
  | .bit_1_E => .bitLoc 1 (.reg .E)
  | .bit_1_H => .bitLoc 1 (.reg .H)
  | .bit_1_L => .bitLoc 1 (.reg .L)
  | .bit_1_mHL => .bitLoc 1 (.ind .HL .none)
  | .bit_1_A => .bitLoc 1 (.reg .A)
  | .bit_2_B => .bitLoc 2 (.reg .B)
  | .bit_2_C => .bitLoc 2 (.reg .C)
  | .bit_2_D => .bitLoc 2 (.reg .D)
  | .bit_2_E => .bitLoc 2 (.reg .E)
  | .bit_2_H => .bitLoc 2 (.reg .H)
  | .bit_2_L => .bitLoc 2 (.reg .L)
  | .bit_2_mHL => .bitLoc 2 (.ind .HL .none)
  | .bit_2_A => .bitLoc 2 (.reg .A)
  | .bit_3_B => .bitLoc 3 (.reg .B)
  | .bit_3_C => .bitLoc 3 (.reg .C)
  | .bit_3_D => .bitLoc 3 (.reg .D)
  | .bit_3_E => .bitLoc 3 (.reg .E)
  | .bit_3_H => .bitLoc 3 (.reg .H)
  | .bit_3_L => .bitLoc 3 (.reg .L)
  | .bit_3_mHL => .bitLoc 3 (.ind .HL .none)
  | .bit_3_A => .bitLoc 3 (.reg .A)
  | .bit_4_B => .bitLoc 4 (.reg .B)
  | .bit_4_C => .bitLoc 4 (.reg .C)
  | .bit_4_D => .bitLoc 4 (.reg .D)
  | .bit_4_E => .bitLoc 4 (.reg .E)
  | .bit_4_H => .bitLoc 4 (.reg .H)
  | .bit_4_L => .bitLoc 4 (.reg .L)
  | .bit_4_mHL => .bitLoc 4 (.ind .HL .none)
  | .bit_4_A => .bitLoc 4 (.reg .A)
  | .bit_5_B => .bitLoc 5 (.reg .B)
  | .bit_5_C => .bitLoc 5 (.reg .C)
  | .bit_5_D => .bitLoc 5 (.reg .D)
  | .bit_5_E => .bitLoc 5 (.reg .E)
  | .bit_5_H => .bitLoc 5 (.reg .H)
  | .bit_5_L => .bitLoc 5 (.reg .L)
  | .bit_5_mHL => .bitLoc 5 (.ind .HL .none)
  | .bit_5_A => .bitLoc 5 (.reg .A)
  | .bit_6_B => .bitLoc 6 (.reg .B)
  | .bit_6_C => .bitLoc 6 (.reg .C)
  | .bit_6_D => .bitLoc 6 (.reg .D)
  | .bit_6_E => .bitLoc 6 (.reg .E)
  | .bit_6_H => .bitLoc 6 (.reg .H)
  | .bit_6_L => .bitLoc 6 (.reg .L)
  | .bit_6_mHL => .bitLoc 6 (.ind .HL .none)
  | .bit_6_A => .bitLoc 6 (.reg .A)
  | .bit_7_B => .bitLoc 7 (.reg .B)
  | .bit_7_C => .bitLoc 7 (.reg .C)
  | .bit_7_D => .bitLoc 7 (.reg .D)
  | .bit_7_E => .bitLoc 7 (.reg .E)
  | .bit_7_H => .bitLoc 7 (.reg .H)
  | .bit_7_L => .bitLoc 7 (.reg .L)
  | .bit_7_mHL => .bitLoc 7 (.ind .HL .none)
  | .bit_7_A => .bitLoc 7 (.reg .A)
  | .res_0_B => .resLoc 0 (.reg .B)
  | .res_0_C => .resLoc 0 (.reg .C)
  | .res_0_D => .resLoc 0 (.reg .D)
  | .res_0_E => .resLoc 0 (.reg .E)
  | .res_0_H => .resLoc 0 (.reg .H)
  | .res_0_L => .resLoc 0 (.reg .L)
  | .res_0_mHL => .resLoc 0 (.ind .HL .none)
  | .res_0_A => .resLoc 0 (.reg .A)
  | .res_1_B => .resLoc 1 (.reg .B)
  | .res_1_C => .resLoc 1 (.reg .C)
  | .res_1_D => .resLoc 1 (.reg .D)
  | .res_1_E => .resLoc 1 (.reg .E)
  | .res_1_H => .resLoc 1 (.reg .H)
  | .res_1_L => .resLoc 1 (.reg .L)
  | .res_1_mHL => .resLoc 1 (.ind .HL .none)
  | .res_1_A => .resLoc 1 (.reg .A)
  | .res_2_B => .resLoc 2 (.reg .B)
  | .res_2_C => .resLoc 2 (.reg .C)
  | .res_2_D => .resLoc 2 (.reg .D)
  | .res_2_E => .resLoc 2 (.reg .E)
  | .res_2_H => .resLoc 2 (.reg .H)
  | .res_2_L => .resLoc 2 (.reg .L)
  | .res_2_mHL => .resLoc 2 (.ind .HL .none)
  | .res_2_A => .resLoc 2 (.reg .A)
  | .res_3_B => .resLoc 3 (.reg .B)
  | .res_3_C => .resLoc 3 (.reg .C)
  | .res_3_D => .resLoc 3 (.reg .D)
  | .res_3_E => .resLoc 3 (.reg .E)
  | .res_3_H => .resLoc 3 (.reg .H)
  | .res_3_L => .resLoc 3 (.reg .L)
  | .res_3_mHL => .resLoc 3 (.ind .HL .none)
  | .res_3_A => .resLoc 3 (.reg .A)
  | .res_4_B => .resLoc 4 (.reg .B)
  | .res_4_C => .resLoc 4 (.reg .C)
  | .res_4_D => .resLoc 4 (.reg .D)
  | .res_4_E => .resLoc 4 (.reg .E)
  | .res_4_H => .resLoc 4 (.reg .H)
  | .res_4_L => .resLoc 4 (.reg .L)
  | .res_4_mHL => .resLoc 4 (.ind .HL .none)
  | .res_4_A => .resLoc 4 (.reg .A)
  | .res_5_B => .resLoc 5 (.reg .B)
  | .res_5_C => .resLoc 5 (.reg .C)
  | .res_5_D => .resLoc 5 (.reg .D)
  | .res_5_E => .resLoc 5 (.reg .E)
  | .res_5_H => .resLoc 5 (.reg .H)
  | .res_5_L => .resLoc 5 (.reg .L)
  | .res_5_mHL => .resLoc 5 (.ind .HL .none)
  | .res_5_A => .resLoc 5 (.reg .A)
  | .res_6_B => .resLoc 6 (.reg .B)
  | .res_6_C => .resLoc 6 (.reg .C)
  | .res_6_D => .resLoc 6 (.reg .D)
  | .res_6_E => .resLoc 6 (.reg .E)
  | .res_6_H => .resLoc 6 (.reg .H)
  | .res_6_L => .resLoc 6 (.reg .L)
  | .res_6_mHL => .resLoc 6 (.ind .HL .none)
  | .res_6_A => .resLoc 6 (.reg .A)
  | .res_7_B => .resLoc 7 (.reg .B)
  | .res_7_C => .resLoc 7 (.reg .C)
  | .res_7_D => .resLoc 7 (.reg .D)
  | .res_7_E => .resLoc 7 (.reg .E)
  | .res_7_H => .resLoc 7 (.reg .H)
  | .res_7_L => .resLoc 7 (.reg .L)
  | .res_7_mHL => .resLoc 7 (.ind .HL .none)
  | .res_7_A => .resLoc 7 (.reg .A)
  | .set_0_B => .setLoc 0 (.reg .B)
  | .set_0_C => .setLoc 0 (.reg .C)
  | .set_0_D => .setLoc 0 (.reg .D)
  | .set_0_E => .setLoc 0 (.reg .E)
  | .set_0_H => .setLoc 0 (.reg .H)
  | .set_0_L => .setLoc 0 (.reg .L)
  | .set_0_mHL => .setLoc 0 (.ind .HL .none)
  | .set_0_A => .setLoc 0 (.reg .A)
  | .set_1_B => .setLoc 1 (.reg .B)
  | .set_1_C => .setLoc 1 (.reg .C)
  | .set_1_D => .setLoc 1 (.reg .D)
  | .set_1_E => .setLoc 1 (.reg .E)
  | .set_1_H => .setLoc 1 (.reg .H)
  | .set_1_L => .setLoc 1 (.reg .L)
  | .set_1_mHL => .setLoc 1 (.ind .HL .none)
  | .set_1_A => .setLoc 1 (.reg .A)
  | .set_2_B => .setLoc 2 (.reg .B)
  | .set_2_C => .setLoc 2 (.reg .C)
  | .set_2_D => .setLoc 2 (.reg .D)
  | .set_2_E => .setLoc 2 (.reg .E)
  | .set_2_H => .setLoc 2 (.reg .H)
  | .set_2_L => .setLoc 2 (.reg .L)
  | .set_2_mHL => .setLoc 2 (.ind .HL .none)
  | .set_2_A => .setLoc 2 (.reg .A)
  | .set_3_B => .setLoc 3 (.reg .B)
  | .set_3_C => .setLoc 3 (.reg .C)
  | .set_3_D => .setLoc 3 (.reg .D)
  | .set_3_E => .setLoc 3 (.reg .E)
  | .set_3_H => .setLoc 3 (.reg .H)
  | .set_3_L => .setLoc 3 (.reg .L)
  | .set_3_mHL => .setLoc 3 (.ind .HL .none)
  | .set_3_A => .setLoc 3 (.reg .A)
  | .set_4_B => .setLoc 4 (.reg .B)
  | .set_4_C => .setLoc 4 (.reg .C)
  | .set_4_D => .setLoc 4 (.reg .D)
  | .set_4_E => .setLoc 4 (.reg .E)
  | .set_4_H => .setLoc 4 (.reg .H)
  | .set_4_L => .setLoc 4 (.reg .L)
  | .set_4_mHL => .setLoc 4 (.ind .HL .none)
  | .set_4_A => .setLoc 4 (.reg .A)
  | .set_5_B => .setLoc 5 (.reg .B)
  | .set_5_C => .setLoc 5 (.reg .C)
  | .set_5_D => .setLoc 5 (.reg .D)
  | .set_5_E => .setLoc 5 (.reg .E)
  | .set_5_H => .setLoc 5 (.reg .H)
  | .set_5_L => .setLoc 5 (.reg .L)
  | .set_5_mHL => .setLoc 5 (.ind .HL .none)
  | .set_5_A => .setLoc 5 (.reg .A)
  | .set_6_B => .setLoc 6 (.reg .B)
  | .set_6_C => .setLoc 6 (.reg .C)
  | .set_6_D => .setLoc 6 (.reg .D)
  | .set_6_E => .setLoc 6 (.reg .E)
  | .set_6_H => .setLoc 6 (.reg .H)
  | .set_6_L => .setLoc 6 (.reg .L)
  | .set_6_mHL => .setLoc 6 (.ind .HL .none)
  | .set_6_A => .setLoc 6 (.reg .A)
  | .set_7_B => .setLoc 7 (.reg .B)
  | .set_7_C => .setLoc 7 (.reg .C)
  | .set_7_D => .setLoc 7 (.reg .D)
  | .set_7_E => .setLoc 7 (.reg .E)
  | .set_7_H => .setLoc 7 (.reg .H)
  | .set_7_L => .setLoc 7 (.reg .L)
  | .set_7_mHL => .setLoc 7 (.ind .HL .none)
  | .set_7_A => .setLoc 7 (.reg .A)
  | .jp_nn nn => .jump nn
  | .jp_NZ_nn nn => .jumpIf .NZ nn
  | .jp_Z_nn nn => .jumpIf .Z nn
  | .jp_NC_nn nn => .jumpIf .NC nn
  | .jp_C_nn nn => .jumpIf .C nn
  | .jp_HL => .jumpHL
  | .jr_e e => .jumpRel e
  | .jr_NZ_e e => .jumpRelIf .NZ e
  | .jr_Z_e e => .jumpRelIf .Z e
  | .jr_NC_e e => .jumpRelIf .NC e
  | .jr_C_e e => .jumpRelIf .C e
  | .call_nn nn => .call nn
  | .call_NZ_nn nn => .callIf .NZ nn
  | .call_Z_nn nn => .callIf .Z nn
  | .call_NC_nn nn => .callIf .NC nn
  | .call_C_nn nn => .callIf .C nn
  | .ret => .ret
  | .ret_NZ => .retIf .NZ
  | .ret_Z => .retIf .Z
  | .ret_NC => .retIf .NC
  | .ret_C => .retIf .C
  | .reti => .retEnable
  | .rst_00 => .call 0
  | .rst_08 => .call 8
  | .rst_10 => .call 16
  | .rst_18 => .call 24
  | .rst_20 => .call 32
  | .rst_28 => .call 40
  | .rst_30 => .call 48
  | .rst_38 => .call 56
  | .nop => .nop
  | .halt => .lowPower .halt
  | .stop _ => .lowPower .stop
  | .di => .setIme false
  | .ei => .setIme true
  | .illegal_D3 => .decodeFault 0xD3
  | .illegal_DB => .decodeFault 0xDB
  | .illegal_DD => .decodeFault 0xDD
  | .illegal_E3 => .decodeFault 0xE3
  | .illegal_E4 => .decodeFault 0xE4
  | .illegal_EB => .decodeFault 0xEB
  | .illegal_EC => .decodeFault 0xEC
  | .illegal_ED => .decodeFault 0xED
  | .illegal_F4 => .decodeFault 0xF4
  | .illegal_FC => .decodeFault 0xFC
  | .illegal_FD => .decodeFault 0xFD

/-- Each row runs its operation. -/
theorem exec_eq_shape (i : Instr) (s : State) : exec i s = (shapeOf i).run s := by cases i <;> rfl

end Sys2Proof.Machine
end

