-- ==== Sys2Proof/Tests/Slice0.lean ====
section
/-! SUPPORT. The model's own tests. Words to decode are written out from opcode_table.json's rows; a step's start and
result are rows of 95_test_vectors.md, cited by their ids; witnesses show states that meet the hypotheses of the
statements. -/

namespace Sys2Proof.Tests

open Sys2Proof.Machine

/-! ## Well-formedness: each check refuses an ill-formed term (R90, R97) -/

theorem test_undefined_row_is_ill_formed : Instr.illegal_D3.wellFormed = false := by decide
theorem test_last_undefined_row_is_ill_formed : Instr.illegal_FD.wellFormed = false := by decide
theorem test_all_undefined_rows_are_ill_formed :
    ([.illegal_DB, .illegal_DD, .illegal_E3, .illegal_E4, .illegal_EB, .illegal_EC, .illegal_ED, .illegal_F4,
      .illegal_FC] : List Instr).all (fun i => i.wellFormed = false) = true := by decide
theorem test_defined_row_is_well_formed : (Instr.stop 0xD3).wellFormed = true := by decide
theorem test_imm8_range : accepted (encodeImm8 256) = false ∧ accepted (encodeImm8 255) = true := by decide
theorem test_imm16_range : accepted (encodeImm16 65536) = false ∧ accepted (encodeImm16 65535) = true := by decide
theorem test_offset_range_low : accepted (encodeOffset (-129)) = false ∧ accepted (encodeOffset (-128)) = true := by
  decide
theorem test_offset_range_high : accepted (encodeOffset 128) = false ∧ accepted (encodeOffset 127) = true := by decide

/-! ## Decoding: every row of opcode_table.json by its word -/

/-- Each byte list decodes to its instruction, with nothing left over. -/
def readsAll (rows : List (List Byte × Instr)) : Bool :=
  rows.all fun p =>
    match decode p.1 with
    | .ok (i, []) => decide (i = p.2)
    | _ => false

theorem test_decode_load8_registers_0 : readsAll [
    ([0x40], .ld_B_B), ([0x41], .ld_B_C), ([0x42], .ld_B_D), ([0x43], .ld_B_E), ([0x44], .ld_B_H),
    ([0x45], .ld_B_L), ([0x47], .ld_B_A), ([0x48], .ld_C_B), ([0x49], .ld_C_C), ([0x4A], .ld_C_D),
    ([0x4B], .ld_C_E), ([0x4C], .ld_C_H), ([0x4D], .ld_C_L), ([0x4F], .ld_C_A), ([0x50], .ld_D_B),
    ([0x51], .ld_D_C), ([0x52], .ld_D_D), ([0x53], .ld_D_E), ([0x54], .ld_D_H), ([0x55], .ld_D_L),
    ([0x57], .ld_D_A), ([0x58], .ld_E_B), ([0x59], .ld_E_C), ([0x5A], .ld_E_D), ([0x5B], .ld_E_E),
    ([0x5C], .ld_E_H), ([0x5D], .ld_E_L), ([0x5F], .ld_E_A), ([0x60], .ld_H_B), ([0x61], .ld_H_C),
    ([0x62], .ld_H_D), ([0x63], .ld_H_E)] = true := by decide

theorem test_decode_load8_registers_1 : readsAll [
    ([0x64], .ld_H_H), ([0x65], .ld_H_L), ([0x67], .ld_H_A), ([0x68], .ld_L_B), ([0x69], .ld_L_C),
    ([0x6A], .ld_L_D), ([0x6B], .ld_L_E), ([0x6C], .ld_L_H), ([0x6D], .ld_L_L), ([0x6F], .ld_L_A),
    ([0x78], .ld_A_B), ([0x79], .ld_A_C), ([0x7A], .ld_A_D), ([0x7B], .ld_A_E), ([0x7C], .ld_A_H),
    ([0x7D], .ld_A_L), ([0x7F], .ld_A_A), ([0x06, 0xA5], .ld_B_n 0xA5), ([0x0E, 0xA5], .ld_C_n 0xA5),
    ([0x16, 0xA5], .ld_D_n 0xA5), ([0x1E, 0xA5], .ld_E_n 0xA5), ([0x26, 0xA5], .ld_H_n 0xA5),
    ([0x2E, 0xA5], .ld_L_n 0xA5), ([0x3E, 0xA5], .ld_A_n 0xA5), ([0x46], .ld_B_mHL), ([0x4E], .ld_C_mHL),
    ([0x56], .ld_D_mHL), ([0x5E], .ld_E_mHL), ([0x66], .ld_H_mHL), ([0x6E], .ld_L_mHL), ([0x7E], .ld_A_mHL)] = true := by decide

theorem test_decode_load8_memory : readsAll [
    ([0x70], .ld_mHL_B), ([0x71], .ld_mHL_C), ([0x72], .ld_mHL_D), ([0x73], .ld_mHL_E), ([0x74], .ld_mHL_H),
    ([0x75], .ld_mHL_L), ([0x77], .ld_mHL_A), ([0x36, 0xA5], .ld_mHL_n 0xA5), ([0x0A], .ld_A_mBC),
    ([0x1A], .ld_A_mDE), ([0x02], .ld_mBC_A), ([0x12], .ld_mDE_A), ([0xFA, 0x34, 0x12], .ld_A_mnn 0x1234),
    ([0xEA, 0x34, 0x12], .ld_mnn_A 0x1234), ([0xF0, 0xA5], .ldh_A_mn 0xA5), ([0xE0, 0xA5], .ldh_mn_A 0xA5),
    ([0xF2], .ld_A_mC), ([0xE2], .ld_mC_A), ([0x22], .ld_mHLi_A), ([0x2A], .ld_A_mHLi), ([0x32], .ld_mHLd_A),
    ([0x3A], .ld_A_mHLd)] = true := by decide

theorem test_decode_load16 : readsAll [
    ([0x01, 0x34, 0x12], .ld_BC_nn 0x1234), ([0x11, 0x34, 0x12], .ld_DE_nn 0x1234),
    ([0x21, 0x34, 0x12], .ld_HL_nn 0x1234), ([0x31, 0x34, 0x12], .ld_SP_nn 0x1234),
    ([0x08, 0x34, 0x12], .ld_mnn_SP 0x1234), ([0xF9], .ld_SP_HL), ([0xF8, 0xA5], .ld_HL_SPe 0xA5),
    ([0xC5], .push_BC), ([0xD5], .push_DE), ([0xE5], .push_HL), ([0xF5], .push_AF), ([0xC1], .pop_BC),
    ([0xD1], .pop_DE), ([0xE1], .pop_HL), ([0xF1], .pop_AF)] = true := by decide

theorem test_decode_accumulator_0 : readsAll [
    ([0x80], .add_A_B), ([0x81], .add_A_C), ([0x82], .add_A_D), ([0x83], .add_A_E), ([0x84], .add_A_H),
    ([0x85], .add_A_L), ([0x86], .add_A_mHL), ([0x87], .add_A_A), ([0xC6, 0xA5], .add_A_n 0xA5),
    ([0x88], .adc_A_B), ([0x89], .adc_A_C), ([0x8A], .adc_A_D), ([0x8B], .adc_A_E), ([0x8C], .adc_A_H),
    ([0x8D], .adc_A_L), ([0x8E], .adc_A_mHL), ([0x8F], .adc_A_A), ([0xCE, 0xA5], .adc_A_n 0xA5), ([0x90], .sub_B),
    ([0x91], .sub_C), ([0x92], .sub_D), ([0x93], .sub_E), ([0x94], .sub_H), ([0x95], .sub_L), ([0x96], .sub_mHL),
    ([0x97], .sub_A), ([0xD6, 0xA5], .sub_n 0xA5), ([0x98], .sbc_A_B), ([0x99], .sbc_A_C), ([0x9A], .sbc_A_D),
    ([0x9B], .sbc_A_E), ([0x9C], .sbc_A_H)] = true := by decide

theorem test_decode_accumulator_1 : readsAll [
    ([0x9D], .sbc_A_L), ([0x9E], .sbc_A_mHL), ([0x9F], .sbc_A_A), ([0xDE, 0xA5], .sbc_A_n 0xA5), ([0xA0], .and_B),
    ([0xA1], .and_C), ([0xA2], .and_D), ([0xA3], .and_E), ([0xA4], .and_H), ([0xA5], .and_L), ([0xA6], .and_mHL),
    ([0xA7], .and_A), ([0xE6, 0xA5], .and_n 0xA5), ([0xA8], .xor_B), ([0xA9], .xor_C), ([0xAA], .xor_D),
    ([0xAB], .xor_E), ([0xAC], .xor_H), ([0xAD], .xor_L), ([0xAE], .xor_mHL), ([0xAF], .xor_A),
    ([0xEE, 0xA5], .xor_n 0xA5), ([0xB0], .or_B), ([0xB1], .or_C), ([0xB2], .or_D), ([0xB3], .or_E),
    ([0xB4], .or_H), ([0xB5], .or_L), ([0xB6], .or_mHL), ([0xB7], .or_A), ([0xF6, 0xA5], .or_n 0xA5),
    ([0xB8], .cp_B)] = true := by decide

theorem test_decode_accumulator_2 : readsAll [
    ([0xB9], .cp_C), ([0xBA], .cp_D), ([0xBB], .cp_E), ([0xBC], .cp_H), ([0xBD], .cp_L), ([0xBE], .cp_mHL),
    ([0xBF], .cp_A), ([0xFE, 0xA5], .cp_n 0xA5)] = true := by decide

theorem test_decode_inc_dec_misc : readsAll [
    ([0x04], .inc_B), ([0x0C], .inc_C), ([0x14], .inc_D), ([0x1C], .inc_E), ([0x24], .inc_H), ([0x2C], .inc_L),
    ([0x34], .inc_mHL), ([0x3C], .inc_A), ([0x05], .dec_B), ([0x0D], .dec_C), ([0x15], .dec_D), ([0x1D], .dec_E),
    ([0x25], .dec_H), ([0x2D], .dec_L), ([0x35], .dec_mHL), ([0x3D], .dec_A), ([0x27], .daa), ([0x2F], .cpl),
    ([0x37], .scf), ([0x3F], .ccf)] = true := by decide

theorem test_decode_alu16_and_rotates : readsAll [
    ([0x09], .add_HL_BC), ([0x19], .add_HL_DE), ([0x29], .add_HL_HL), ([0x39], .add_HL_SP), ([0x03], .inc_BC),
    ([0x13], .inc_DE), ([0x23], .inc_HL), ([0x33], .inc_SP), ([0x0B], .dec_BC), ([0x1B], .dec_DE),
    ([0x2B], .dec_HL), ([0x3B], .dec_SP), ([0xE8, 0xA5], .add_SP_e 0xA5), ([0x07], .rlca), ([0x0F], .rrca),
    ([0x17], .rla), ([0x1F], .rra)] = true := by decide

theorem test_decode_rotate_prefixed_0 : readsAll [
    ([0xCB, 0x00], .rlc_B), ([0xCB, 0x01], .rlc_C), ([0xCB, 0x02], .rlc_D), ([0xCB, 0x03], .rlc_E),
    ([0xCB, 0x04], .rlc_H), ([0xCB, 0x05], .rlc_L), ([0xCB, 0x06], .rlc_mHL), ([0xCB, 0x07], .rlc_A),
    ([0xCB, 0x08], .rrc_B), ([0xCB, 0x09], .rrc_C), ([0xCB, 0x0A], .rrc_D), ([0xCB, 0x0B], .rrc_E),
    ([0xCB, 0x0C], .rrc_H), ([0xCB, 0x0D], .rrc_L), ([0xCB, 0x0E], .rrc_mHL), ([0xCB, 0x0F], .rrc_A),
    ([0xCB, 0x10], .rl_B), ([0xCB, 0x11], .rl_C), ([0xCB, 0x12], .rl_D), ([0xCB, 0x13], .rl_E),
    ([0xCB, 0x14], .rl_H), ([0xCB, 0x15], .rl_L), ([0xCB, 0x16], .rl_mHL), ([0xCB, 0x17], .rl_A),
    ([0xCB, 0x18], .rr_B), ([0xCB, 0x19], .rr_C), ([0xCB, 0x1A], .rr_D), ([0xCB, 0x1B], .rr_E),
    ([0xCB, 0x1C], .rr_H), ([0xCB, 0x1D], .rr_L), ([0xCB, 0x1E], .rr_mHL), ([0xCB, 0x1F], .rr_A)] = true := by decide

theorem test_decode_rotate_prefixed_1 : readsAll [
    ([0xCB, 0x20], .sla_B), ([0xCB, 0x21], .sla_C), ([0xCB, 0x22], .sla_D), ([0xCB, 0x23], .sla_E),
    ([0xCB, 0x24], .sla_H), ([0xCB, 0x25], .sla_L), ([0xCB, 0x26], .sla_mHL), ([0xCB, 0x27], .sla_A),
    ([0xCB, 0x28], .sra_B), ([0xCB, 0x29], .sra_C), ([0xCB, 0x2A], .sra_D), ([0xCB, 0x2B], .sra_E),
    ([0xCB, 0x2C], .sra_H), ([0xCB, 0x2D], .sra_L), ([0xCB, 0x2E], .sra_mHL), ([0xCB, 0x2F], .sra_A),
    ([0xCB, 0x30], .swap_B), ([0xCB, 0x31], .swap_C), ([0xCB, 0x32], .swap_D), ([0xCB, 0x33], .swap_E),
    ([0xCB, 0x34], .swap_H), ([0xCB, 0x35], .swap_L), ([0xCB, 0x36], .swap_mHL), ([0xCB, 0x37], .swap_A),
    ([0xCB, 0x38], .srl_B), ([0xCB, 0x39], .srl_C), ([0xCB, 0x3A], .srl_D), ([0xCB, 0x3B], .srl_E),
    ([0xCB, 0x3C], .srl_H), ([0xCB, 0x3D], .srl_L), ([0xCB, 0x3E], .srl_mHL), ([0xCB, 0x3F], .srl_A)] = true := by decide

theorem test_decode_bit_0 : readsAll [
    ([0xCB, 0x40], .bit_0_B), ([0xCB, 0x41], .bit_0_C), ([0xCB, 0x42], .bit_0_D), ([0xCB, 0x43], .bit_0_E),
    ([0xCB, 0x44], .bit_0_H), ([0xCB, 0x45], .bit_0_L), ([0xCB, 0x46], .bit_0_mHL), ([0xCB, 0x47], .bit_0_A),
    ([0xCB, 0x48], .bit_1_B), ([0xCB, 0x49], .bit_1_C), ([0xCB, 0x4A], .bit_1_D), ([0xCB, 0x4B], .bit_1_E),
    ([0xCB, 0x4C], .bit_1_H), ([0xCB, 0x4D], .bit_1_L), ([0xCB, 0x4E], .bit_1_mHL), ([0xCB, 0x4F], .bit_1_A),
    ([0xCB, 0x50], .bit_2_B), ([0xCB, 0x51], .bit_2_C), ([0xCB, 0x52], .bit_2_D), ([0xCB, 0x53], .bit_2_E),
    ([0xCB, 0x54], .bit_2_H), ([0xCB, 0x55], .bit_2_L), ([0xCB, 0x56], .bit_2_mHL), ([0xCB, 0x57], .bit_2_A),
    ([0xCB, 0x58], .bit_3_B), ([0xCB, 0x59], .bit_3_C), ([0xCB, 0x5A], .bit_3_D), ([0xCB, 0x5B], .bit_3_E),
    ([0xCB, 0x5C], .bit_3_H), ([0xCB, 0x5D], .bit_3_L), ([0xCB, 0x5E], .bit_3_mHL), ([0xCB, 0x5F], .bit_3_A)] = true := by decide

theorem test_decode_bit_1 : readsAll [
    ([0xCB, 0x60], .bit_4_B), ([0xCB, 0x61], .bit_4_C), ([0xCB, 0x62], .bit_4_D), ([0xCB, 0x63], .bit_4_E),
    ([0xCB, 0x64], .bit_4_H), ([0xCB, 0x65], .bit_4_L), ([0xCB, 0x66], .bit_4_mHL), ([0xCB, 0x67], .bit_4_A),
    ([0xCB, 0x68], .bit_5_B), ([0xCB, 0x69], .bit_5_C), ([0xCB, 0x6A], .bit_5_D), ([0xCB, 0x6B], .bit_5_E),
    ([0xCB, 0x6C], .bit_5_H), ([0xCB, 0x6D], .bit_5_L), ([0xCB, 0x6E], .bit_5_mHL), ([0xCB, 0x6F], .bit_5_A),
    ([0xCB, 0x70], .bit_6_B), ([0xCB, 0x71], .bit_6_C), ([0xCB, 0x72], .bit_6_D), ([0xCB, 0x73], .bit_6_E),
    ([0xCB, 0x74], .bit_6_H), ([0xCB, 0x75], .bit_6_L), ([0xCB, 0x76], .bit_6_mHL), ([0xCB, 0x77], .bit_6_A),
    ([0xCB, 0x78], .bit_7_B), ([0xCB, 0x79], .bit_7_C), ([0xCB, 0x7A], .bit_7_D), ([0xCB, 0x7B], .bit_7_E),
    ([0xCB, 0x7C], .bit_7_H), ([0xCB, 0x7D], .bit_7_L), ([0xCB, 0x7E], .bit_7_mHL), ([0xCB, 0x7F], .bit_7_A)] = true := by decide

theorem test_decode_res_0 : readsAll [
    ([0xCB, 0x80], .res_0_B), ([0xCB, 0x81], .res_0_C), ([0xCB, 0x82], .res_0_D), ([0xCB, 0x83], .res_0_E),
    ([0xCB, 0x84], .res_0_H), ([0xCB, 0x85], .res_0_L), ([0xCB, 0x86], .res_0_mHL), ([0xCB, 0x87], .res_0_A),
    ([0xCB, 0x88], .res_1_B), ([0xCB, 0x89], .res_1_C), ([0xCB, 0x8A], .res_1_D), ([0xCB, 0x8B], .res_1_E),
    ([0xCB, 0x8C], .res_1_H), ([0xCB, 0x8D], .res_1_L), ([0xCB, 0x8E], .res_1_mHL), ([0xCB, 0x8F], .res_1_A),
    ([0xCB, 0x90], .res_2_B), ([0xCB, 0x91], .res_2_C), ([0xCB, 0x92], .res_2_D), ([0xCB, 0x93], .res_2_E),
    ([0xCB, 0x94], .res_2_H), ([0xCB, 0x95], .res_2_L), ([0xCB, 0x96], .res_2_mHL), ([0xCB, 0x97], .res_2_A),
    ([0xCB, 0x98], .res_3_B), ([0xCB, 0x99], .res_3_C), ([0xCB, 0x9A], .res_3_D), ([0xCB, 0x9B], .res_3_E),
    ([0xCB, 0x9C], .res_3_H), ([0xCB, 0x9D], .res_3_L), ([0xCB, 0x9E], .res_3_mHL), ([0xCB, 0x9F], .res_3_A)] = true := by decide

theorem test_decode_res_1 : readsAll [
    ([0xCB, 0xA0], .res_4_B), ([0xCB, 0xA1], .res_4_C), ([0xCB, 0xA2], .res_4_D), ([0xCB, 0xA3], .res_4_E),
    ([0xCB, 0xA4], .res_4_H), ([0xCB, 0xA5], .res_4_L), ([0xCB, 0xA6], .res_4_mHL), ([0xCB, 0xA7], .res_4_A),
    ([0xCB, 0xA8], .res_5_B), ([0xCB, 0xA9], .res_5_C), ([0xCB, 0xAA], .res_5_D), ([0xCB, 0xAB], .res_5_E),
    ([0xCB, 0xAC], .res_5_H), ([0xCB, 0xAD], .res_5_L), ([0xCB, 0xAE], .res_5_mHL), ([0xCB, 0xAF], .res_5_A),
    ([0xCB, 0xB0], .res_6_B), ([0xCB, 0xB1], .res_6_C), ([0xCB, 0xB2], .res_6_D), ([0xCB, 0xB3], .res_6_E),
    ([0xCB, 0xB4], .res_6_H), ([0xCB, 0xB5], .res_6_L), ([0xCB, 0xB6], .res_6_mHL), ([0xCB, 0xB7], .res_6_A),
    ([0xCB, 0xB8], .res_7_B), ([0xCB, 0xB9], .res_7_C), ([0xCB, 0xBA], .res_7_D), ([0xCB, 0xBB], .res_7_E),
    ([0xCB, 0xBC], .res_7_H), ([0xCB, 0xBD], .res_7_L), ([0xCB, 0xBE], .res_7_mHL), ([0xCB, 0xBF], .res_7_A)] = true := by decide

theorem test_decode_set_0 : readsAll [
    ([0xCB, 0xC0], .set_0_B), ([0xCB, 0xC1], .set_0_C), ([0xCB, 0xC2], .set_0_D), ([0xCB, 0xC3], .set_0_E),
    ([0xCB, 0xC4], .set_0_H), ([0xCB, 0xC5], .set_0_L), ([0xCB, 0xC6], .set_0_mHL), ([0xCB, 0xC7], .set_0_A),
    ([0xCB, 0xC8], .set_1_B), ([0xCB, 0xC9], .set_1_C), ([0xCB, 0xCA], .set_1_D), ([0xCB, 0xCB], .set_1_E),
    ([0xCB, 0xCC], .set_1_H), ([0xCB, 0xCD], .set_1_L), ([0xCB, 0xCE], .set_1_mHL), ([0xCB, 0xCF], .set_1_A),
    ([0xCB, 0xD0], .set_2_B), ([0xCB, 0xD1], .set_2_C), ([0xCB, 0xD2], .set_2_D), ([0xCB, 0xD3], .set_2_E),
    ([0xCB, 0xD4], .set_2_H), ([0xCB, 0xD5], .set_2_L), ([0xCB, 0xD6], .set_2_mHL), ([0xCB, 0xD7], .set_2_A),
    ([0xCB, 0xD8], .set_3_B), ([0xCB, 0xD9], .set_3_C), ([0xCB, 0xDA], .set_3_D), ([0xCB, 0xDB], .set_3_E),
    ([0xCB, 0xDC], .set_3_H), ([0xCB, 0xDD], .set_3_L), ([0xCB, 0xDE], .set_3_mHL), ([0xCB, 0xDF], .set_3_A)] = true := by decide

theorem test_decode_set_1 : readsAll [
    ([0xCB, 0xE0], .set_4_B), ([0xCB, 0xE1], .set_4_C), ([0xCB, 0xE2], .set_4_D), ([0xCB, 0xE3], .set_4_E),
    ([0xCB, 0xE4], .set_4_H), ([0xCB, 0xE5], .set_4_L), ([0xCB, 0xE6], .set_4_mHL), ([0xCB, 0xE7], .set_4_A),
    ([0xCB, 0xE8], .set_5_B), ([0xCB, 0xE9], .set_5_C), ([0xCB, 0xEA], .set_5_D), ([0xCB, 0xEB], .set_5_E),
    ([0xCB, 0xEC], .set_5_H), ([0xCB, 0xED], .set_5_L), ([0xCB, 0xEE], .set_5_mHL), ([0xCB, 0xEF], .set_5_A),
    ([0xCB, 0xF0], .set_6_B), ([0xCB, 0xF1], .set_6_C), ([0xCB, 0xF2], .set_6_D), ([0xCB, 0xF3], .set_6_E),
    ([0xCB, 0xF4], .set_6_H), ([0xCB, 0xF5], .set_6_L), ([0xCB, 0xF6], .set_6_mHL), ([0xCB, 0xF7], .set_6_A),
    ([0xCB, 0xF8], .set_7_B), ([0xCB, 0xF9], .set_7_C), ([0xCB, 0xFA], .set_7_D), ([0xCB, 0xFB], .set_7_E),
    ([0xCB, 0xFC], .set_7_H), ([0xCB, 0xFD], .set_7_L), ([0xCB, 0xFE], .set_7_mHL), ([0xCB, 0xFF], .set_7_A)] = true := by decide

theorem test_decode_control : readsAll [
    ([0xC3, 0x34, 0x12], .jp_nn 0x1234), ([0xC2, 0x34, 0x12], .jp_NZ_nn 0x1234),
    ([0xCA, 0x34, 0x12], .jp_Z_nn 0x1234), ([0xD2, 0x34, 0x12], .jp_NC_nn 0x1234),
    ([0xDA, 0x34, 0x12], .jp_C_nn 0x1234), ([0xE9], .jp_HL), ([0x18, 0xA5], .jr_e 0xA5),
    ([0x20, 0xA5], .jr_NZ_e 0xA5), ([0x28, 0xA5], .jr_Z_e 0xA5), ([0x30, 0xA5], .jr_NC_e 0xA5),
    ([0x38, 0xA5], .jr_C_e 0xA5), ([0xCD, 0x34, 0x12], .call_nn 0x1234), ([0xC4, 0x34, 0x12], .call_NZ_nn 0x1234),
    ([0xCC, 0x34, 0x12], .call_Z_nn 0x1234), ([0xD4, 0x34, 0x12], .call_NC_nn 0x1234),
    ([0xDC, 0x34, 0x12], .call_C_nn 0x1234), ([0xC9], .ret), ([0xC0], .ret_NZ), ([0xC8], .ret_Z),
    ([0xD0], .ret_NC), ([0xD8], .ret_C), ([0xD9], .reti), ([0xC7], .rst_00), ([0xCF], .rst_08), ([0xD7], .rst_10),
    ([0xDF], .rst_18), ([0xE7], .rst_20), ([0xEF], .rst_28), ([0xF7], .rst_30), ([0xFF], .rst_38)] = true := by decide

theorem test_decode_system : readsAll [
    ([0x00], .nop), ([0x76], .halt), ([0x10, 0xA5], .stop 0xA5), ([0xF3], .di), ([0xFB], .ei)] = true := by decide

theorem test_decode_undefined : readsAll [
    ([0xD3], .illegal_D3), ([0xDB], .illegal_DB), ([0xDD], .illegal_DD), ([0xE3], .illegal_E3),
    ([0xE4], .illegal_E4), ([0xEB], .illegal_EB), ([0xEC], .illegal_EC), ([0xED], .illegal_ED),
    ([0xF4], .illegal_F4), ([0xFC], .illegal_FC), ([0xFD], .illegal_FD)] = true := by decide

theorem test_decode_rejects_by_name : decodeEntry [0xD3] = .error (.unimplemented 0xD3) := rfl
theorem test_decode_truncated : decode [0xC3, 0x50] = .error (.truncated 3) := rfl
theorem test_decode_leaves_the_rest : decode [0x3E, 0x42, 0x41] = .ok (.ld_A_n 0x42, [0x41]) := rfl
theorem test_table_word_of_a_prefixed_row : decodeTableWord 16 0xCB15 = some .rl_L := by decide
theorem test_table_word_without_operand_bits : decodeTableWord 8 0xC3 = some (.jp_nn 0) := by decide

/-! ## One step: rows of 95_test_vectors.md section 2 -/

/-- A state with code at an address, memory cells, and PC at the code. -/
def coded (pc : Word) (bs : List Byte) (cells : List (Word × Byte)) (s : State) : State :=
  { cells.foldl (fun (t : State) c => t.placeByte c.1 c.2) (s.placeBytes pc bs) with pc := pc }

/-- The state after one step from there. -/
def after (pc : Word) (bs : List Byte) (cells : List (Word × Byte)) (s : State) : Option State :=
  nextOf (step (coded pc bs cells s))

/-- L1: `LD B,C`. -/
theorem test_L1 : (after 0x0150 [0x41] []
    { State.reset with f := 0xF0, b := 0x00, c := 0x5A }).map (fun t => (t.b, t.c)) = some (0x5A, 0x5A) := by decide
/-- L3: `LD E,n`. -/
theorem test_L3 : (after 0x0150 [0x1E, 0xFF] []
    { State.reset with e := 0x00 }).map (fun t => (t.e, t.pc)) = some (0xFF, 0x0152) := by decide
/-- L4: `LD H,(HL)`. -/
theorem test_L4 : (after 0x0150 [0x66] [(0xC010, 0x99)]
    { State.reset with h := 0xC0, l := 0x10 }).map (fun t => (t.h, t.l)) = some (0x99, 0x10) := by decide
/-- L5: `LD (HL),B`. -/
theorem test_L5 : (after 0x0150 [0x70] []
    { State.reset with h := 0xE0, l := 0x10, b := 0x77 }).map (fun t => (t.loadByte 0xC010, t.loadByte 0xE010)) = some (0x77, 0x77) := by decide
/-- L6: `LD (HL),L`. -/
theorem test_L6 : (after 0x0150 [0x75] []
    { State.reset with h := 0xC0, l := 0xAB }).map (fun t => (t.loadByte 0xC0AB, t.f)) = some (0xAB, 0x00) := by decide
/-- L7: `LD (HL),n`. -/
theorem test_L7 : (after 0x0150 [0x36, 0x42] []
    { State.reset with h := 0xFF, l := 0x80 }).map (fun t => (t.pc, t.loadByte 0xFF80)) = some (0x0152, 0x42) := by decide
/-- L8: `LD A,(BC)`. -/
theorem test_L8 : (after 0x0150 [0x0A] [(0xDDFF, 0xA5)]
    { State.reset with b := 0xFD, c := 0xFF, a := 0x00 }).map (fun t => (t.a, t.f)) = some (0xA5, 0x00) := by decide
/-- L9: `LD A,(DE)`. -/
theorem test_L9 : (after 0x0150 [0x1A] [(0xC001, 0x10)]
    { State.reset with d := 0xC0, e := 0x01, a := 0x00 }).map (fun t => (t.a, t.f)) = some (0x10, 0x00) := by decide
/-- L10: `LD (BC),A`. -/
theorem test_L10 : (after 0x0150 [0x02] []
    { State.reset with b := 0xC0, c := 0x02, a := 0xEE }).map (fun t => (t.loadByte 0xC002, t.f)) = some (0xEE, 0x00) := by decide
/-- L11: `LD (DE),A`. -/
theorem test_L11 : (after 0x0150 [0x12] []
    { State.reset with d := 0xDF, e := 0xFF, a := 0x12 }).map (fun t => (t.loadByte 0xDFFF, t.f)) = some (0x12, 0x00) := by decide
/-- L12: `LD A,(nn)`. -/
theorem test_L12 : (after 0x0150 [0xFA, 0x34, 0xC2] [(0xC234, 0x56)]
    { State.reset with a := 0x00 }).map (fun t => (t.a, t.pc)) = some (0x56, 0x0153) := by decide
/-- L13: `LD (nn),A`. -/
theorem test_L13 : (after 0x0150 [0xEA, 0x00, 0xE0] []
    { State.reset with a := 0x9C }).map (fun t => (t.loadByte 0xC000, t.loadByte 0xE000)) = some (0x9C, 0x9C) := by decide
/-- L14: `LDH A,(n)`. -/
theorem test_L14 : (after 0x0150 [0xF0, 0x80] [(0xFF80, 0x3D)]
    { State.reset with a := 0x00 }).map (fun t => (t.a, t.f)) = some (0x3D, 0x00) := by decide
/-- L15: `LDH (n),A`. -/
theorem test_L15 : (after 0x0150 [0xE0, 0xFF] []
    { State.reset with a := 0x1F }).map (fun t => (t.loadByte 0xFFFF, t.f)) = some (0x1F, 0x00) := by decide
/-- L16: `LD A,(C)`. -/
theorem test_L16 : (after 0x0150 [0xF2] [(0xFF90, 0x44)]
    { State.reset with c := 0x90, a := 0x00 }).map (fun t => (t.a, t.pc)) = some (0x44, 0x0151) := by decide
/-- L17: `LD (C),A`. -/
theorem test_L17 : (after 0x0150 [0xE2] []
    { State.reset with c := 0x00, a := 0x30 }).map (fun t => (t.loadByte 0xFF00, t.f)) = some (0x30, 0x00) := by decide
/-- L18: `LD (HL+),A`. -/
theorem test_L18 : (after 0x0150 [0x22] []
    { State.reset with h := 0xFF, l := 0xFF, a := 0x56 }).map (fun t => (t.reg16 .HL, t.loadByte 0xFFFF)) = some (0x0000, 0x56) := by decide
/-- L19: `LD A,(HL+)`. -/
theorem test_L19 : (after 0x0150 [0x2A] [(0xC0FF, 0x21)]
    { State.reset with h := 0xC0, l := 0xFF, a := 0x00 }).map (fun t => (t.a, t.reg16 .HL)) = some (0x21, 0xC100) := by decide
/-- L20: `LD (HL-),A`. -/
theorem test_L20 : (after 0x0150 [0x32] []
    { State.reset with h := 0xC0, l := 0x00, a := 0x05 }).map (fun t => (t.reg16 .HL, t.loadByte 0xC000)) = some (0xBFFF, 0x05) := by decide
/-- L21: `LD A,(HL-)`. -/
theorem test_L21 : (after 0x0150 [0x3A] [(0x0000, 0x3C)]
    { State.reset with h := 0x00, l := 0x00, a := 0x00 }).map (fun t => (t.a, t.reg16 .HL)) = some (0x3C, 0xFFFF) := by decide
/-- W1: `LD BC,nn`. -/
theorem test_W1 : (after 0x0150 [0x01, 0x34, 0x12] []
    { State.reset with b := 0x00, c := 0x00 }).map (fun t => (t.b, t.c)) = some (0x12, 0x34) := by decide
/-- W3: `LD (nn),SP`. -/
theorem test_W3 : (after 0x0150 [0x08, 0xFF, 0xDF] []
    { State.reset with sp := 0xABCD }).map (fun t => (t.pc, t.loadByte 0xDFFF)) = some (0x0153, 0xCD) := by decide
/-- W4: `LD SP,HL`. -/
theorem test_W4 : (after 0x0150 [0xF9] []
    { State.reset with f := 0xF0, h := 0xC1, l := 0x23, sp := 0x0000 }).map (fun t => (t.sp, t.f)) = some (0xC123, 0xF0) := by decide
/-- W7: `LD HL,SP+e`. -/
theorem test_W7 : (after 0x0150 [0xF8, 0xFF] []
    { State.reset with sp := 0x0001 }).map (fun t => (t.reg16 .HL, t.f)) = some (0x0000, 0x30) := by decide
/-- W9: `LD HL,SP+e`. -/
theorem test_W9 : (after 0x0150 [0xF8, 0x80] []
    { State.reset with sp := 0xC0FF }).map (fun t => (t.reg16 .HL, t.f)) = some (0xC07F, 0x10) := by decide
/-- W10: `PUSH BC`. -/
theorem test_W10 : (after 0x0150 [0xC5] []
    { State.reset with b := 0x12, c := 0x34, sp := 0xD000 }).map (fun t => (t.sp, t.loadByte 0xCFFE)) = some (0xCFFE, 0x34) := by decide
/-- W11: `PUSH AF`. -/
theorem test_W11 : (after 0x0150 [0xF5] []
    { State.reset with f := 0xB0, a := 0x9A, sp := 0xD000 }).map (fun t => (t.sp, t.loadByte 0xCFFE)) = some (0xCFFE, 0xB0) := by decide
/-- W12: `POP AF`. -/
theorem test_W12 : (after 0x0150 [0xF1] [(0xCFFE, 0xFF), (0xCFFF, 0x12)]
    { State.reset with sp := 0xCFFE }).map (fun t => (t.a, t.f)) = some (0x12, 0xF0) := by decide
/-- W13: `POP DE`. -/
theorem test_W13 : (after 0x0150 [0xD1] [(0xFFFF, 0x78), (0x0000, 0x56)]
    { State.reset with f := 0xF0, sp := 0xFFFF }).map (fun t => (t.reg16 .DE, t.sp)) = some (0x5678, 0x0001) := by decide
/-- A1: `ADD A,B`. -/
theorem test_A1 : (after 0x0150 [0x80] []
    { State.reset with a := 0x3A, b := 0xC6 }).map (fun t => (t.a, t.f)) = some (0x00, 0xB0) := by decide
/-- A4: `ADD A,(HL)`. -/
theorem test_A4 : (after 0x0150 [0x86] [(0xC000, 0x12)]
    { State.reset with a := 0x3C, h := 0xC0, l := 0x00 }).map (fun t => (t.a, t.f)) = some (0x4E, 0x00) := by decide
/-- A6: `ADC A,B`. -/
theorem test_A6 : (after 0x0150 [0x88] []
    { State.reset with f := 0x10, a := 0xFF, b := 0xFF }).map (fun t => (t.a, t.f)) = some (0xFF, 0x30) := by decide
/-- A8: `ADC A,n`. -/
theorem test_A8 : (after 0x0150 [0xCE, 0xFF] []
    { State.reset with f := 0x10, a := 0x00 }).map (fun t => (t.a, t.f)) = some (0x00, 0xB0) := by decide
/-- A9: `SUB n`. -/
theorem test_A9 : (after 0x0150 [0xD6, 0x0F] []
    { State.reset with a := 0x3E }).map (fun t => (t.a, t.f)) = some (0x2F, 0x60) := by decide
/-- A10: `SUB (HL)`. -/
theorem test_A10 : (after 0x0150 [0x96] [(0xC000, 0x40)]
    { State.reset with a := 0x3E, h := 0xC0, l := 0x00 }).map (fun t => (t.a, t.f)) = some (0xFE, 0x50) := by decide
/-- A12: `SBC A,H`. -/
theorem test_A12 : (after 0x0150 [0x9C] []
    { State.reset with f := 0x10, a := 0x3B, h := 0x2A }).map (fun t => (t.a, t.f)) = some (0x10, 0x40) := by decide
/-- A14: `SBC A,(HL)`. -/
theorem test_A14 : (after 0x0150 [0x9E] [(0xC000, 0x4F)]
    { State.reset with f := 0x10, a := 0x3B, h := 0xC0, l := 0x00 }).map (fun t => (t.a, t.f)) = some (0xEB, 0x70) := by decide
/-- A16: `SBC A,B`. -/
theorem test_A16 : (after 0x0150 [0x98] []
    { State.reset with f := 0x10, a := 0x00, b := 0xFF }).map (fun t => (t.a, t.f)) = some (0x00, 0xF0) := by decide
/-- A17: `AND L`. -/
theorem test_A17 : (after 0x0150 [0xA5] []
    { State.reset with f := 0x50, a := 0x5A, l := 0x3F }).map (fun t => (t.a, t.f)) = some (0x1A, 0x20) := by decide
/-- A19: `XOR A`. -/
theorem test_A19 : (after 0x0150 [0xAF] []
    { State.reset with f := 0xF0, a := 0xC3 }).map (fun t => (t.a, t.f)) = some (0x00, 0x80) := by decide
/-- A21: `OR (HL)`. -/
theorem test_A21 : (after 0x0150 [0xB6] [(0xC000, 0x0F)]
    { State.reset with a := 0x5A, h := 0xC0, l := 0x00 }).map (fun t => (t.a, t.f)) = some (0x5F, 0x00) := by decide
/-- A24: `CP n`. -/
theorem test_A24 : (after 0x0150 [0xFE, 0x3C] []
    { State.reset with a := 0x3C }).map (fun t => (t.a, t.f)) = some (0x3C, 0xC0) := by decide
/-- A25: `CP (HL)`. -/
theorem test_A25 : (after 0x0150 [0xBE] [(0xC000, 0x40)]
    { State.reset with a := 0x3C, h := 0xC0, l := 0x00 }).map (fun t => (t.a, t.f)) = some (0x3C, 0x50) := by decide
/-- A27: `INC A`. -/
theorem test_A27 : (after 0x0150 [0x3C] []
    { State.reset with f := 0x10, a := 0xFF }).map (fun t => (t.a, t.f)) = some (0x00, 0xB0) := by decide
/-- A28: `INC (HL)`. -/
theorem test_A28 : (after 0x0150 [0x34] [(0xC000, 0x0F)]
    { State.reset with h := 0xC0, l := 0x00 }).map (fun t => (t.loadByte 0xC000, t.f)) = some (0x10, 0x20) := by decide
/-- A30: `DEC L`. -/
theorem test_A30 : (after 0x0150 [0x2D] []
    { State.reset with l := 0x10 }).map (fun t => (t.l, t.f)) = some (0x0F, 0x60) := by decide
/-- A31: `DEC (HL)`. -/
theorem test_A31 : (after 0x0150 [0x35] [(0xC000, 0x00)]
    { State.reset with f := 0x10, h := 0xC0, l := 0x00 }).map (fun t => (t.loadByte 0xC000, t.f)) = some (0xFF, 0x70) := by decide
/-- A32: `DAA`. -/
theorem test_A32 : (after 0x0150 [0x27] []
    { State.reset with a := 0x7D }).map (fun t => (t.a, t.f)) = some (0x83, 0x00) := by decide
/-- A33: `DAA`. -/
theorem test_A33 : (after 0x0150 [0x27] []
    { State.reset with f := 0x60, a := 0x4B }).map (fun t => (t.a, t.f)) = some (0x45, 0x40) := by decide
/-- A39: `CPL`. -/
theorem test_A39 : (after 0x0150 [0x2F] []
    { State.reset with f := 0x90, a := 0x35 }).map (fun t => (t.a, t.f)) = some (0xCA, 0xF0) := by decide
/-- A40: `SCF`. -/
theorem test_A40 : (after 0x0150 [0x37] []
    { State.reset with f := 0xE0 }).map (fun t => (t.f, t.f)) = some (0x90, 0x90) := by decide
/-- A41: `CCF`. -/
theorem test_A41 : (after 0x0150 [0x3F] []
    { State.reset with f := 0xF0 }).map (fun t => (t.f, t.f)) = some (0x80, 0x80) := by decide
/-- X1: `ADD HL,BC`. -/
theorem test_X1 : (after 0x0150 [0x09] []
    { State.reset with f := 0x80, h := 0x8A, l := 0x23, b := 0x06, c := 0x05 }).map (fun t => (t.reg16 .HL, t.f)) = some (0x9028, 0xA0) := by decide
/-- X4: `ADD HL,SP`. -/
theorem test_X4 : (after 0x0150 [0x39] []
    { State.reset with f := 0x40, h := 0xFF, l := 0xFF, sp := 0x0001 }).map (fun t => (t.reg16 .HL, t.f)) = some (0x0000, 0x30) := by decide
/-- X5: `INC BC`. -/
theorem test_X5 : (after 0x0150 [0x03] []
    { State.reset with b := 0xFF, c := 0xFF }).map (fun t => (t.reg16 .BC, t.f)) = some (0x0000, 0x00) := by decide
/-- X7: `DEC DE`. -/
theorem test_X7 : (after 0x0150 [0x1B] []
    { State.reset with d := 0x00, e := 0x00 }).map (fun t => (t.reg16 .DE, t.f)) = some (0xFFFF, 0x00) := by decide
/-- X10: `ADD SP,e`. -/
theorem test_X10 : (after 0x0150 [0xE8, 0xFE] []
    { State.reset with sp := 0xDFFE }).map (fun t => (t.sp, t.f)) = some (0xDFFC, 0x30) := by decide
/-- X12: `ADD SP,e`. -/
theorem test_X12 : (after 0x0150 [0xE8, 0x01] []
    { State.reset with sp := 0xFFFF }).map (fun t => (t.sp, t.f)) = some (0x0000, 0x30) := by decide
/-- Q2: `RLCA`. -/
theorem test_Q2 : (after 0x0150 [0x07] []
    { State.reset with f := 0xF0, a := 0x00 }).map (fun t => (t.a, t.f)) = some (0x00, 0x00) := by decide
/-- Q3: `RRCA`. -/
theorem test_Q3 : (after 0x0150 [0x0F] []
    { State.reset with a := 0x3B }).map (fun t => (t.a, t.f)) = some (0x9D, 0x10) := by decide
/-- Q4: `RLA`. -/
theorem test_Q4 : (after 0x0150 [0x17] []
    { State.reset with f := 0x10, a := 0x95 }).map (fun t => (t.a, t.f)) = some (0x2B, 0x10) := by decide
/-- Q7: `RRA`. -/
theorem test_Q7 : (after 0x0150 [0x1F] []
    { State.reset with f := 0x10, a := 0x01 }).map (fun t => (t.a, t.f)) = some (0x80, 0x10) := by decide
/-- Q10: `RLC (HL)`. -/
theorem test_Q10 : (after 0x0150 [0xCB, 0x06] [(0xC000, 0x00)]
    { State.reset with f := 0x10, h := 0xC0, l := 0x00 }).map (fun t => (t.loadByte 0xC000, t.f)) = some (0x00, 0x80) := by decide
/-- Q11: `RRC C`. -/
theorem test_Q11 : (after 0x0150 [0xCB, 0x09] []
    { State.reset with c := 0x01 }).map (fun t => (t.c, t.f)) = some (0x80, 0x10) := by decide
/-- Q13: `RL D`. -/
theorem test_Q13 : (after 0x0150 [0xCB, 0x12] []
    { State.reset with f := 0x10, d := 0x11 }).map (fun t => (t.d, t.f)) = some (0x23, 0x00) := by decide
/-- Q15: `RR (HL)`. -/
theorem test_Q15 : (after 0x0150 [0xCB, 0x1E] [(0xC000, 0x8A)]
    { State.reset with f := 0x10, h := 0xE0, l := 0x00 }).map (fun t => (t.loadByte 0xC000, t.f)) = some (0xC5, 0x00) := by decide
/-- Q17: `SLA E`. -/
theorem test_Q17 : (after 0x0150 [0xCB, 0x23] []
    { State.reset with e := 0x80 }).map (fun t => (t.e, t.f)) = some (0x00, 0x90) := by decide
/-- Q18: `SRA A`. -/
theorem test_Q18 : (after 0x0150 [0xCB, 0x2F] []
    { State.reset with a := 0x8A }).map (fun t => (t.a, t.f)) = some (0xC5, 0x00) := by decide
/-- Q20: `SWAP A`. -/
theorem test_Q20 : (after 0x0150 [0xCB, 0x37] []
    { State.reset with f := 0x10, a := 0xF1 }).map (fun t => (t.a, t.f)) = some (0x1F, 0x00) := by decide
/-- Q22: `SRL (HL)`. -/
theorem test_Q22 : (after 0x0150 [0xCB, 0x3E] [(0xC000, 0xFF)]
    { State.reset with h := 0xC0, l := 0x00 }).map (fun t => (t.loadByte 0xC000, t.f)) = some (0x7F, 0x10) := by decide
/-- B2: `BIT 4,L`. -/
theorem test_B2 : (after 0x0150 [0xCB, 0x65] []
    { State.reset with l := 0xEF }).map (fun t => (t.l, t.f)) = some (0xEF, 0xA0) := by decide
/-- B3: `BIT 0,(HL)`. -/
theorem test_B3 : (after 0x0150 [0xCB, 0x46] [(0xC000, 0xFE)]
    { State.reset with f := 0x40, h := 0xC0, l := 0x00 }).map (fun t => (t.loadByte 0xC000, t.f)) = some (0xFE, 0xA0) := by decide
/-- B4: `SET 7,(HL)`. -/
theorem test_B4 : (after 0x0150 [0xCB, 0xFE] [(0xDDFF, 0x01)]
    { State.reset with f := 0xF0, h := 0xFD, l := 0xFF }).map (fun t => (t.loadByte 0xDDFF, t.f)) = some (0x81, 0xF0) := by decide
/-- B7: `RES 3,(HL)`. -/
theorem test_B7 : (after 0x0150 [0xCB, 0x9E] [(0xC000, 0xFF)]
    { State.reset with h := 0xC0, l := 0x00 }).map (fun t => (t.loadByte 0xC000, t.f)) = some (0xF7, 0x00) := by decide
/-- B9: `SET 0,C`. -/
theorem test_B9 : (after 0x0150 [0xCB, 0xC1] []
    { State.reset with c := 0x01 }).map (fun t => (t.c, t.f)) = some (0x01, 0x00) := by decide
/-- J1: `JP nn`. -/
theorem test_J1 : (after 0x0200 [0xC3, 0x50, 0x01] []
    State.reset).map (fun t => (t.pc, t.f)) = some (0x0150, 0x00) := by decide
/-- J4: `JP C,nn`. -/
theorem test_J4 : (after 0x0200 [0xDA, 0x34, 0x12] []
    { State.reset with f := 0x10 }).map (fun t => (t.pc, t.f)) = some (0x1234, 0x10) := by decide
/-- J5: `JP NC,nn`. -/
theorem test_J5 : (after 0x0200 [0xD2, 0x34, 0x12] []
    { State.reset with f := 0x10 }).map (fun t => (t.pc, t.f)) = some (0x0203, 0x10) := by decide
/-- J6: `JP HL`. -/
theorem test_J6 : (after 0x0150 [0xE9] []
    { State.reset with h := 0xC1, l := 0x23 }).map (fun t => (t.pc, t.f)) = some (0xC123, 0x00) := by decide
/-- J11: `JR e`. -/
theorem test_J11 : (after 0x0150 [0x18, 0x80] []
    State.reset).map (fun t => (t.pc, t.f)) = some (0x00D2, 0x00) := by decide
/-- J12: `JR e`. -/
theorem test_J12 : (after 0xFFFE [0x18, 0x01] []
    State.reset).map (fun t => (t.pc, t.f)) = some (0x0001, 0x00) := by decide
/-- J14: `JR NZ,e`. -/
theorem test_J14 : (after 0x0150 [0x20, 0xFC] []
    State.reset).map (fun t => (t.pc, t.f)) = some (0x014E, 0x00) := by decide
/-- J17: `JR NC,e`. -/
theorem test_J17 : (after 0x0150 [0x30, 0x10] []
    { State.reset with f := 0x10 }).map (fun t => (t.pc, t.f)) = some (0x0152, 0x10) := by decide
/-- J20: `CALL nn`. -/
theorem test_J20 : (after 0xC000 [0xCD, 0x34, 0x12] []
    { State.reset with sp := 0xC003 }).map (fun t => (t.sp, t.pc)) = some (0xC001, 0x1234) := by decide
/-- J21: `CALL C,nn`. -/
theorem test_J21 : (after 0x0200 [0xDC, 0x34, 0x12] []
    { State.reset with sp := 0xFFFE }).map (fun t => (t.sp, t.pc)) = some (0xFFFE, 0x0203) := by decide
/-- J22: `CALL NC,nn`. -/
theorem test_J22 : (after 0x0200 [0xD4, 0x34, 0x12] []
    { State.reset with sp := 0xFFFE }).map (fun t => (t.sp, t.pc)) = some (0xFFFC, 0x1234) := by decide
/-- J23: `RET`. -/
theorem test_J23 : (after 0x1234 [0xC9] [(0xFFFC, 0x03), (0xFFFD, 0x02)]
    { State.reset with sp := 0xFFFC }).map (fun t => (t.sp, t.pc)) = some (0xFFFE, 0x0203) := by decide
/-- J24: `RET Z`. -/
theorem test_J24 : (after 0x1240 [0xC8] [(0xFFFC, 0x03), (0xFFFD, 0x02)]
    { State.reset with f := 0x80, sp := 0xFFFC }).map (fun t => (t.sp, t.pc)) = some (0xFFFE, 0x0203) := by decide
/-- J25: `RET NZ`. -/
theorem test_J25 : (after 0x1240 [0xC0] []
    { State.reset with f := 0x80, sp := 0xFFFC }).map (fun t => (t.sp, t.pc)) = some (0xFFFC, 0x1241) := by decide
/-- J26: `RETI`. -/
theorem test_J26 : (after 0x0040 [0xD9] [(0xFFFC, 0x03), (0xFFFD, 0x02)]
    { State.reset with sp := 0xFFFC }).map (fun t => (t.sp, t.pc)) = some (0xFFFE, 0x0203) := by decide
/-- J28: `RST 00H`. -/
theorem test_J28 : (after 0xFFFF [0xC7] []
    { State.reset with sp := 0xD000 }).map (fun t => (t.sp, t.pc)) = some (0xCFFE, 0x0000) := by decide
/-- Y1: `NOP`. -/
theorem test_Y1 : (after 0x0150 [0x00] []
    { State.reset with f := 0xF0 }).map (fun t => (t.pc, t.f)) = some (0x0151, 0xF0) := by decide
/-- Y2: `HALT`. -/
theorem test_Y2 : (after 0x0150 [0x76] []
    State.reset).map (fun t => (t.pc, t.run)) = some (0x0151, .lowPower .halt) := by decide
/-- Y4: `STOP`. -/
theorem test_Y4 : (after 0x0150 [0x10, 0xD3] []
    State.reset).map (fun t => (t.pc, t.run)) = some (0x0152, .lowPower .stop) := by decide
/-- Y5: `DI`. -/
theorem test_Y5 : (after 0x0150 [0xF3] []
    { State.reset with ime := true }).map (fun t => (t.ime, t.pc)) = some (false, 0x0151) := by decide
/-- Y6: `EI`. -/
theorem test_Y6 : (after 0x0150 [0xFB] []
    State.reset).map (fun t => (t.ime, t.pc)) = some (true, 0x0151) := by decide
/-- F1: `undefined`. -/
theorem test_F1 : (after 0x0150 [0xD3] []
    { State.reset with f := 0xF0, a := 0x11, sp := 0xD000 }).map (fun t => (t.pc, t.run)) = some (0x0150, .decodeFault 0x0150 0xD3) := by decide
/-- F12: `LD BC,nn`. -/
theorem test_F12 : (after 0xFFFE [0x01, 0x34, 0x12] []
    { State.reset with b := 0x00, c := 0x00 }).map (fun t => (t.reg16 .BC, t.pc)) = some (0x1234, 0x0001) := by decide
/-- F13: `SWAP A`. -/
theorem test_F13 : (after 0xFFFF [0xCB, 0x37] []
    { State.reset with a := 0x12 }).map (fun t => (t.a, t.pc)) = some (0x21, 0x0001) := by decide
/-- F14: `LD (nn),A`. -/
theorem test_F14 : (after 0xC000 [0xEA, 0x01, 0xC0] []
    { State.reset with a := 0x99 }).map (fun t => (t.pc, t.loadByte 0xC000)) = some (0xC003, 0xEA) := by decide
/-- F16: `RST 38H`. -/
theorem test_F16 : (after 0xE000 [0xFF] []
    { State.reset with sp := 0xC002 }).map (fun t => (t.sp, t.pc)) = some (0xC000, 0x0038) := by decide

/-! ## Faults, host port and reset: rows of 95_test_vectors.md section 2.10 and laws of section 1 -/

/-- Rows H1 to H5: three increments of A and an undefined byte. -/
def hostStart : State := coded 0x0150 [0x3C, 0x3C, 0x3C, 0xD3] [] State.reset

/-- The state in which a run returned, if it did. -/
def returnedState : RunEnd → Option State
  | .returned t => some t
  | .refused _ => none
  | .unfinished _ => none

theorem test_H1 : (returnedState (runUntilBreak 9 (hostStart.addBreakpoint 0x0152))).map (fun t => (t.pc, t.a, t.run))
    = some (0x0152, 0x02, .breakHalted) := by decide
theorem test_H5 : (returnedState (runUntilBreak 9 hostStart)).map (fun t => (t.a, t.run, t.faulted))
    = some (0x03, .decodeFault 0x0153 0xD3, true) := by decide
theorem test_H6 : (coded 0 [] [(0xFFFE, 0xAA), (0xFFFF, 0xBB), (0x0000, 0xCC), (0x0001, 0xDD)] State.reset).dump 0xFFFE 4
    = [0xAA, 0xBB, 0xCC, 0xDD] := by decide
theorem test_H7 : (coded 0 [] [(0xDFFE, 1), (0xDFFF, 2), (0xC000, 3), (0xC001, 4)] State.reset).dump 0xDFFE 4
    = [1, 2, 3, 4] := by decide
theorem test_H8 : (({ State.reset with bp := [0x0152, 0x0153] }).deleteBreakpoint 0x0200).1
    = .error (.noSuchBreakpoint 0x0200) := rfl
theorem test_H9 : (({ State.reset with bp := [0x0152, 0x0153] }).deleteBreakpoint 0x0152).2.breakpoints = [0x0153] := by
  decide
theorem test_H10 : returnedState (runUntilBreak 5 ((coded 0xE000 [0x18, 0xFE] [] State.reset).addBreakpoint 0xC000))
    = none := by decide
theorem test_echo_ends : ((State.reset.placeByte 0xFDFF 0xA5).loadByte 0xDDFF, (State.reset.placeByte 0xDE00 0x77).loadByte 0xFE00)
    = (0xA5, 0x00) := by decide
theorem test_AF_drops_low_bits : (State.reset.setReg16 .AF 0x12FF).reg16 .AF = 0x12F0 := by decide
theorem test_post_boot_DMG : (State.reset.postBootDMG.snapshot.AF, State.reset.postBootDMG.pc) = (0x01B0, 0x0100) := by
  decide
theorem test_cart_ignore : (after 0xC000 [0x77] [] { State.reset with
      a := 0x5A, h := 0x20, platform := { referencePlatform with cartStore := .ignore } }).map (fun t => t.loadByte 0x2000)
    = some 0x00 := by decide
theorem test_unmapped_pattern : (after 0xC000 [0xFA, 0xA0, 0xFE] [] { State.reset with
      platform := { referencePlatform with unmapped := .pattern 0xFF } }).map (fun t => t.a) = some 0xFF := by decide

/-! ## Witnesses: for each statement with hypotheses, states that meet them -/

/-- A core whose cartridge stores go to an external mapper (R51). -/
def externalReset : State := { State.reset with platform := { referencePlatform with cartStore := .external } }
/-- A cartridge without a mapper (R51). -/
def ignoringReset : State := { State.reset with platform := { referencePlatform with cartStore := .ignore } }
/-- A core stopped by a decode failure. -/
def faultedState : State := { State.reset with pc := 0xC000, run := .decodeFault 0xC000 0xFD }

theorem witness_DecodeFailsExactlyOnUndefinedBytes :
    (0xFD : Byte) ∈ ([0xD3, 0xDB, 0xDD, 0xE3, 0xE4, 0xEB, 0xEC, 0xED, 0xF4, 0xFC, 0xFD] : List Byte) ∧
    (0xCB : Byte) ∉ ([0xD3, 0xDB, 0xDD, 0xE3, 0xE4, 0xEB, 0xEC, 0xED, 0xF4, 0xFC, 0xFD] : List Byte) := by decide
theorem witness_StepRunsTheDecodedInstruction : (coded 0xFFFF [0xC3, 0x50, 0x01] [] State.reset).run = .running ∧
    ∀ (k : Nat) (h : k < (encode (.jp_nn 0x0150)).length),
      (coded 0xFFFF [0xC3, 0x50, 0x01] [] State.reset).fetchByte (0xFFFF#16 + BitVec.ofNat 16 k) =
        (encode (.jp_nn 0x0150))[k] := by decide
theorem witness_StepRunsTheDecodedInstruction_halted :
    ({ coded 0xC000 [0x00] [] State.reset with run := .breakHalted } : State).fetchByte 0xC000 = 0x00 := by decide
theorem witness_StoppedCoreChangesNothing : faultedState.run = .decodeFault 0xC000 0xFD ∧
    ({ State.reset with run := .lowPower .stop } : State).run = .lowPower .stop := by decide
theorem witness_UndefinedByteStopsTheCore : (coded 0xC000 [0xFD] [] State.reset).run = .running ∧
    (coded 0xC000 [0xFD] [] State.reset).fetchByte (coded 0xC000 [0xFD] [] State.reset).pc ∈
      ([0xD3, 0xDB, 0xDD, 0xE3, 0xE4, 0xEB, 0xEC, 0xED, 0xF4, 0xFC, 0xFD] : List Byte) := by decide
theorem witness_StoreToMemoryAtHL : ({ State.reset with h := 0xFF, l := 0xFF } : State).Accepts 0xFFFF ∧
    ¬ externalReset.Accepts 0x7FFF ∧ ¬ externalReset.Accepts 0xA000 ∧ externalReset.Accepts 0x8000 ∧
    externalReset.Accepts 0xC000 := by decide
theorem witness_StoreAccumulatorToMemory : ∀ p ∈ [(Instr.ld_mBC_A, State.reset.reg16 .BC), (.ld_mDE_A, State.reset.reg16 .DE),
    (.ld_mnn_A 0xFFFF, 0xFFFF), (.ldh_mn_A 0xFF, BitVec.ofNat 16 (0xFF00 + 0xFF)),
    (.ld_mC_A, BitVec.ofNat 16 (0xFF00 + State.reset.c.toNat))], State.reset.Accepts p.2 := by decide
theorem witness_PostIncrementAndDecrementLoads : ({ State.reset with h := 0xFF, l := 0xFF } : State).Accepts
    (({ State.reset with h := 0xFF, l := 0xFF } : State).reg16 .HL) ∧ State.reset.Accepts (State.reset.reg16 .HL) := by decide
theorem witness_LoadPairFromImmediate : Pair.HL ≠ Pair.SP := by decide
theorem witness_StoreAndLoadStackPointer : State.reset.Accepts 0xFFFF ∧ State.reset.Accepts (0xFFFF#16 + 1#16) := by decide
theorem witness_PushStoresThePair : State.reset.Accepts (State.reset.sp - 2#16) ∧
    State.reset.Accepts (State.reset.sp - 2#16 + 1#16) ∧ ({ State.reset with sp := 1 } : State).Accepts (1#16 - 2#16 + 1#16) := by
  decide
theorem witness_PopLoadsThePair : StackPair.BC ≠ StackPair.AF ∧ StackPair.AF = StackPair.AF := by decide
theorem witness_PushThenPopCopies : State.reset.kindAt (State.reset.sp - 2#16) = .storage ∧
    State.reset.kindAt (State.reset.sp - 2#16 + 1#16) = .storage ∧ State.reset.f &&& 0x0F#8 = 0#8 := by decide
theorem witness_AddAndAddWithCarry : AluForm .ADD State.reset .add_A_mHL 0x00 ∧ AluForm .ADC State.reset (.adc_A_n 0xFF) 0xFF :=
  ⟨.inl ⟨.mHL, rfl, by decide⟩, .inr rfl⟩
theorem witness_SubtractAndCompare : AluForm .SUB State.reset .sub_A 0x00 ∧ AluForm .SBC State.reset .sbc_A_mHL 0x00 ∧
    AluForm .CP State.reset (.cp_n 0x80) 0x80 := ⟨.inl ⟨.reg .A, rfl, rfl⟩, .inl ⟨.mHL, rfl, by decide⟩, .inr rfl⟩
theorem witness_BitwiseOperations : AluForm .AND State.reset .and_B 0x00 ∧ AluForm .XOR State.reset (.xor_n 0x0F) 0x0F ∧
    AluForm .OR State.reset .or_mHL 0x00 := ⟨.inl ⟨.reg .B, rfl, rfl⟩, .inr rfl, .inl ⟨.mHL, rfl, by decide⟩⟩
theorem witness_IncrementAndDecrementByte : placeWritable State.reset .mHL ∧ placeWritable externalReset (.reg .A) :=
  ⟨show State.reset.Accepts (State.reset.reg16 .HL) by decide, trivial⟩
theorem witness_DecimalAdjustFormula : ({ State.reset with f := 0x40 } : State).flagN = true ∧ State.reset.flagN = false := by
  decide
theorem witness_DecimalAdditionAndSubtraction : (IsBcd ({ State.reset with a := 0x99 } : State).a ∧
    IsBcd ({ State.reset with a := 0x99, b := 0x99 } : State).b) ∧ IsBcd State.reset.a := by unfold IsBcd; decide
theorem witness_PrefixedRotatesAndShifts : placeWritable State.reset .mHL :=
  show State.reset.Accepts (State.reset.reg16 .HL) by decide
theorem witness_ResetAndSetBit : placeWritable State.reset .mHL :=
  show State.reset.Accepts (State.reset.reg16 .HL) by decide
theorem witness_CallsAndRestarts : State.reset.Accepts (State.reset.sp - 2#16) ∧
    State.reset.Accepts (State.reset.sp - 2#16 + 1#16) ∧ (!State.reset.flagZ) = true ∧ State.reset.flagC = false := by decide
theorem witness_CallThenReturnComesBack : Instr.call_nn 0x1234 = .call_nn 0x1234 ∧ rstT 5 = .rst_28 ∧
    State.reset.kindAt (State.reset.sp - 2#16) = .storage ∧ State.reset.kindAt (State.reset.sp - 2#16 + 1#16) = .storage := by
  decide
theorem witness_NothingFaultsAndOnlyExternalStoresAreRefused :
    step { coded 0xC000 [0x77] [] externalReset with h := 0x7F, l := 0xFF } = .refused (.externalCartStore 0x7FFF) := rfl
theorem witness_RefusingAddresses : externalReset.kindAt 0x0000 = .refusing ∧ externalReset.kindAt 0x7FFF = .refusing ∧
    externalReset.kindAt 0xA000 = .refusing ∧ externalReset.kindAt 0xBFFF = .refusing ∧ externalReset.Accepts 0x9FFF := by
  decide
/-- R44, R51: the low byte is accepted at 9FFF, the high byte is not at A000. -/
theorem test_push_refused_at_high_byte :
    exec .push_BC { externalReset with sp := 0xA001 } = .refused (.externalCartStore 0xA000) := rfl
/-- R51: a call that is not taken stores nothing and completes; taken, its low byte goes to 7FFF. -/
theorem test_call_refused_if_taken :
    exec (.call_Z_nn 0xC000) { externalReset with sp := 0x8001 } = .next { externalReset with sp := 0x8001 } ∧
    exec (.call_NZ_nn 0xC000) { externalReset with sp := 0x8001 } = .refused (.externalCartStore 0x7FFF) := ⟨rfl, rfl⟩
theorem witness_FirstRefusing :
    ({ externalReset with sp := 0xA001 } : State).firstRefusing
      (storedAddrs .push_BC { externalReset with sp := 0xA001 }) = some 0xA000 ∧
    ({ externalReset with sp := 0x8001 } : State).firstRefusing
      (storedAddrs (.call_Z_nn 0xC000) { externalReset with sp := 0x8001 }) = none := by decide
theorem witness_EveryDefinedInstructionCompletes : State.reset.platform.cartStore ≠ .external ∧
    ignoringReset.platform.cartStore ≠ .external := by decide
theorem witness_OnlyThreeInstructionsWriteIme : exec .nop State.reset = .next State.reset ∧
    exec .di State.reset = .next { State.reset with ime := false } ∧
    exec .ei State.reset = .next { State.reset with ime := true } ∧
    exec .reti State.reset = .next { State.reset with pc := State.reset.topWord, sp := 2, ime := true } := ⟨rfl, rfl, rfl, rfl⟩
theorem witness_RunStateChangesOnlyByThree : exec .nop State.reset = .next State.reset ∧
    exec .halt State.reset = .next { State.reset with run := .lowPower .halt } ∧
    exec (.stop 7) State.reset = .next { State.reset with run := .lowPower .stop } ∧ Instr.nop.wellFormed = true := ⟨rfl, rfl, rfl, rfl⟩
theorem witness_BreakpointsAreTheHostsAlone : (nextOf (step State.reset)).isSome = true := by decide
theorem witness_OnlyControlTransferMovesThePc : State.reset.run.steppable = true ∧ State.reset.fetchInstr = .nop ∧
    exec .nop State.reset = .next State.reset ∧ ∀ b ∈ (encode .nop).head?, b ∉ controlOpcodes :=
  ⟨rfl, by decide, rfl, by decide⟩
theorem witness_RomWithoutMapperNeverChanges : ignoringReset.platform = { referencePlatform with cartStore := .ignore } ∧
    (nextOf (step ignoringReset)).isSome = true ∧ (0x7FFF#16).toNat ≤ 0x7FFF ∧ 0xA000 ≤ (0xBFFF#16).toNat := by decide
theorem witness_EveryStepKeepsTheForm : State.reset.Inv ∧ (nextOf (step State.reset)).isSome = true :=
  ⟨⟨by decide, by decide, by decide, trivial⟩, by decide⟩
theorem witness_EveryStepKeepsTheForm_faulted : faultedState.Inv := ⟨by decide, by decide, by decide, by
  exact ⟨rfl, by decide⟩⟩
theorem witness_ResetEventLeavesTheSpecsValues :
    (State.reset.resetEvent ⟨1, 0xFF, 2, 3, 4, 5, 6, 7, 0xFFFE⟩).f = 0xF0#8 := rfl
theorem witness_HostOperationsKeepTheForm : State.reset.Inv ∧ (nextOf (hostStore 0xC000 1 State.reset)).isSome = true ∧
    runUntilBreak 0 State.reset = .unfinished State.reset ∧ runUntilBreak 1 faultedState = .returned faultedState :=
  ⟨⟨by decide, by decide, by decide, trivial⟩, by decide, rfl, rfl⟩
theorem witness_EchoRangeIsInternalRam : State.reset.platform.regions = referenceRegions ∧ 0xC000 ≤ (0xC000#16).toNat ∧
    (0xDDFF#16).toNat ≤ 0xDDFF := by decide
theorem witness_ReferenceMapIsTotal : State.reset.platform = referencePlatform ∧ canon 0xE000 = 0xC000 ∧
    canon 0xFDFF = 0xDDFF ∧ canon 0xDFFF = 0xDFFF ∧ canon 0xFE00 = 0xFE00 := by decide
theorem witness_WordAccessIsLittleEndian : State.reset.kindAt 0xFFFF = .storage ∧ State.reset.kindAt (0xFFFF#16 + 1#16) = .storage := by
  decide
theorem witness_RunUntilBreakEndsInThreeWays : runUntilBreak 1 { State.reset with bp := [0] } =
      .returned { State.reset with bp := [0], run := .breakHalted } ∧
    runUntilBreak 1 faultedState = .returned faultedState ∧
    runUntilBreak 1 { State.reset with run := .lowPower .halt } = .returned { State.reset with run := .lowPower .halt } :=
  ⟨rfl, rfl, rfl⟩
theorem witness_RunUntilBreakIsRepeatedStepping :
    (returnedState (runUntilBreak 3 (hostStart.addBreakpoint 0x0152))).map (fun t => t.run) = some .breakHalted := by decide
theorem witness_BreakpointMaintenance : [0x0152#16, 0x0153#16].Pairwise (fun x y => x < y) ∧ 0x0152#16 ∈ [0x0152#16, 0x0153#16] ∧
    0x0200#16 ∉ [0x0152#16, 0x0153#16] := by decide
theorem witness_DumpIsSequentialLoads : 65536 ≤ 65536 ∧ 65535 < 65536 := by decide

end Sys2Proof.Tests
end

section
/-! SUPPORT. What an instruction can write: the one inversion lemma over the shared operations (`Shape.run_reaches`),
from which the statements about all instructions and all steps follow. -/

namespace Sys2Proof.Machine

/-! ## Writes of the data state -/

/-- `t` comes from `s` by writes of registers, flags, SP and accepted stores alone. -/
inductive Writes (s : State) : State → Prop where
  | refl : Writes s s
  | setReg8 {t : State} (r : Reg8) (v : Byte) : Writes s t → Writes s (t.setReg8 r v)
  | setReg16 {t : State} (rr : Reg16) (v : Word) : Writes s t → Writes s (t.setReg16 rr v)
  | setFlags {t : State} (z n h c : Bool) : Writes s t → Writes s (t.setFlags z n h c)
  | stored {t : State} (a : Word) (v : Byte) : Writes s t → Writes s (t.stored a v)

theorem Writes.pc {s t : State} (hw : Writes s t) : t.pc = s.pc := by
  induction hw with
  | refl => rfl
  | setReg8 _ _ _ ih | setReg16 _ _ _ ih | setFlags _ _ _ _ _ ih | stored _ _ _ ih => simpa using ih

theorem Writes.keepsControl {s t : State} (hw : Writes s t) : KeepsControl s t := by
  induction hw with
  | refl => exact ⟨rfl, rfl, rfl, rfl, rfl⟩
  | setReg8 _ _ _ ih | setReg16 _ _ _ ih | setFlags _ _ _ _ _ ih | stored _ _ _ ih => simpa [KeepsControl] using ih

/-- The storage stays in its canonical form (R40). -/
theorem Writes.mem_wf {s t : State} (hw : Writes s t) (hs : s.mem.wf) : t.mem.wf := by
  induction hw with
  | refl => exact hs
  | setReg8 _ _ _ ih | setReg16 _ _ _ ih | setFlags _ _ _ _ _ ih => simpa using ih
  | stored a v _ ih => exact State.stored_wf _ a v ih

theorem and_flagMask_low (v : Byte) : v &&& Config.flagMask &&& 0x0F#8 = 0#8 := by
  rw [BitVec.and_assoc, show Config.flagMask &&& 0x0F#8 = 0#8 by decide, BitVec.and_zero]

/-- A write of a composite keeps bits 3..0 of F zero, AF included (R17). -/
theorem State.setReg16_flags_low (s : State) (rr : Reg16) (v : Word) (hs : s.f &&& 0x0F#8 = 0#8) :
    (s.setReg16 rr v).f &&& 0x0F#8 = 0#8 := by
  cases rr with
  | AF => exact and_flagMask_low (loByte v)
  | BC | DE | HL | SP => exact hs

/-- Bits 3..0 of F stay zero (R17). -/
theorem Writes.flags_low {s t : State} (hw : Writes s t) (hs : s.f &&& 0x0F#8 = 0#8) : t.f &&& 0x0F#8 = 0#8 := by
  induction hw with
  | refl => exact hs
  | setReg8 _ _ _ ih | stored _ _ _ ih => simpa using ih
  | setReg16 rr v _ ih => exact State.setReg16_flags_low _ rr v ih
  | setFlags z n h c => exact (FlagsAre_setFlags _ z n h c).2.2.2.2

/-! ## The shared operations only write data -/

theorem storeByte_writes {s u t : State} {a : Word} {v : Byte} (hw : Writes s u) (h : storeByte a v u = .next t) :
    Writes s t := by
  obtain ⟨-, rfl⟩ := storeByte_next u t a v h
  exact hw.stored a v

theorem storeWord_writes {s u t : State} {a v : Word} (hw : Writes s u) (h : storeWord a v u = .next t) :
    Writes s t := by
  obtain ⟨-, -, rfl⟩ := storeWord_next u t a v h
  exact (hw.stored a _).stored _ _

theorem pushWord_writes {s t : State} {v : Word} (h : pushWord v s = .next t) : Writes s t :=
  storeWord_writes (Writes.refl.setReg16 .SP (s.sp - 2#16)) h

theorem State.dropWord_writes (s : State) : Writes s s.dropWord := Writes.refl.setReg16 .SP (s.sp + 2#16)

theorem Loc8.after_writes {s u : State} (l : Loc8) (hw : Writes s u) : Writes s (l.after u) := by
  rcases l with _ | ⟨rr, _ | _ | _⟩ | _ | _ | _
  case ind.inc | ind.dec => exact hw.setReg16 rr _
  all_goals exact hw

theorem Loc8.store_writes {s u t : State} {l : Loc8} {v : Byte} (hw : Writes s u) (h : l.store v u = .next t) :
    Writes s t := by
  cases l with
  | reg r => cases h; exact hw.setReg8 r v
  | ind rr p =>
    obtain ⟨w, hstore, hafter⟩ := (andThen_next _ _ _).1 h
    cases hafter
    exact Loc8.after_writes _ (storeByte_writes hw hstore)
  | abs _ | highImm _ | highC => exact storeByte_writes hw h

theorem ld8_writes {s t : State} {dst : Loc8} {src : Src8} (h : ld8 dst src s = .next t) : Writes s t := by
  refine Loc8.store_writes ?_ h
  cases src with
  | imm _ => exact .refl
  | loc l => exact l.after_writes .refl

theorem ld16_writes {s t : State} {dst : Dst16} {src : Src16} (h : ld16 dst src s = .next t) : Writes s t := by
  cases dst with
  | reg rr => cases h; exact Writes.refl.setReg16 rr _
  | abs _ => exact storeWord_writes .refl h

theorem aluAcc_writes {s t : State} {op : AluOp} {src : Src8} (h : aluAcc op src s = .next t) : Writes s t := by
  cases op <;> cases h
  case CP => exact Writes.refl.setFlags _ _ _ _
  all_goals exact (Writes.refl.setReg8 .A _).setFlags _ _ _ _

theorem writeBack_writes {s t : State} {l : Loc8} {o : AluOut} (h : writeBack l o s = .next t) : Writes s t := by
  obtain ⟨u, hstore, hflags⟩ := (andThen_next _ _ _).1 h
  cases hflags
  exact (Loc8.store_writes .refl hstore).setFlags _ _ _ _

theorem rotLoc_writes {s t : State} {op : RotOp} {l : Loc8} (h : rotLoc op l s = .next t) : Writes s t := by
  obtain ⟨u, hstore, hflags⟩ := (andThen_next _ _ _).1 h
  cases hflags
  exact (Loc8.store_writes .refl hstore).setFlags _ _ _ _

/-! ## Control transfers write data and PC -/

/-- `t` comes from `s` by data writes and a write of PC. -/
def Transfers (s t : State) : Prop := ∃ u p, Writes s u ∧ t = { u with pc := p }

theorem jump_transfers {s t : State} {target : Word} (h : jump target s = .next t) : Transfers s t := by
  cases h; exact ⟨s, target, .refl, rfl⟩

theorem call_transfers {s t : State} {target : Word} (h : call target s = .next t) : Transfers s t := by
  obtain ⟨u, hpush, hjump⟩ := (andThen_next _ _ _).1 h
  cases hjump
  exact ⟨u, target, pushWord_writes hpush, rfl⟩

theorem ret_transfers {s t : State} (h : ret s = .next t) : Transfers s t := by
  cases h; exact ⟨s.dropWord, s.topWord, s.dropWord_writes, rfl⟩

theorem whenCond_transfers {s t : State} {cc : Cond} {k : State → Result} (hk : k s = .next t → Transfers s t)
    (h : whenCond cc k s = .next t) : Transfers s t := by
  unfold whenCond at h
  split at h
  · exact hk h
  · cases h; exact ⟨s, s.pc, .refl, rfl⟩

/-! ## What an operation writes besides -/

/-- The operations of 46_control.md. -/
def Shape.movesPc : Shape → Bool
  | .jump _ | .jumpHL | .jumpRel _ | .call _ | .ret | .retEnable | .jumpIf _ _ | .jumpRelIf _ _ | .callIf _ _
  | .retIf _ => true
  | _ => false

/-- What an operation leaves in `ime`, from its value before (R23). -/
def Shape.imeAfter (x : Shape) (ime : Bool) : Bool :=
  match x with
  | .setIme v => v
  | .retEnable => true
  | _ => ime

/-- What an operation leaves in the run state (R261, R262, R270). -/
def Shape.runAfter (x : Shape) (s : State) : RunState :=
  match x with
  | .lowPower k => .lowPower k
  | .decodeFault op => .decodeFault s.pc op
  | _ => s.run

/-- `t` comes from `s` by data writes and by what `x` writes of PC, `ime` and the run state. -/
def Shape.Reaches (x : Shape) (s t : State) : Prop :=
  ∃ u, Writes s u ∧ (x.movesPc = false → t.pc = u.pc) ∧
    t = { u with pc := t.pc, ime := x.imeAfter s.ime, run := x.runAfter s }

theorem Shape.reaches_of_writes {x : Shape} {s t : State} (hime : x.imeAfter s.ime = s.ime)
    (hrun : x.runAfter s = s.run) (hw : Writes s t) : x.Reaches s t := by
  obtain ⟨ime, run, -⟩ := hw.keepsControl
  exact ⟨t, hw, fun _ => rfl, by rw [hime, hrun, ← ime, ← run]⟩

theorem Shape.reaches_of_transfers {x : Shape} {s t : State} (hpc : x.movesPc = true) (hime : x.imeAfter s.ime = s.ime)
    (hrun : x.runAfter s = s.run) (ht : Transfers s t) : x.Reaches s t := by
  obtain ⟨u, p, hw, rfl⟩ := ht
  obtain ⟨ime, run, -⟩ := hw.keepsControl
  exact ⟨u, hw, by simp [hpc], by rw [hime, hrun, ← ime, ← run]⟩

/-- What each operation can do, where it completes. -/
theorem Shape.run_reaches (x : Shape) {s t : State} (h : x.run s = .next t) : x.Reaches s t := by
  cases x with
  | ld8 => exact reaches_of_writes rfl rfl (ld8_writes h)
  | ld16 => exact reaches_of_writes rfl rfl (ld16_writes h)
  | push16 => exact reaches_of_writes rfl rfl (pushWord_writes h)
  | pop16 rr => cases h; exact reaches_of_writes rfl rfl (s.dropWord_writes.setReg16 rr _)
  | aluAcc => exact reaches_of_writes rfl rfl (aluAcc_writes h)
  | incLoc | decLoc => exact reaches_of_writes rfl rfl (writeBack_writes h)
  | rotLoc => exact reaches_of_writes rfl rfl (rotLoc_writes h)
  | resLoc | setLoc => exact reaches_of_writes rfl rfl (Loc8.store_writes .refl h)
  | adjustDecimal | complementA | rotAcc =>
    cases h; exact reaches_of_writes rfl rfl ((Writes.refl.setReg8 .A _).setFlags _ _ _ _)
  | setCarry | complementCarry | bitLoc => cases h; exact reaches_of_writes rfl rfl (Writes.refl.setFlags _ _ _ _)
  | ldHLSPe | addHLPair =>
    cases h; exact reaches_of_writes rfl rfl ((Writes.refl.setReg16 .HL _).setFlags _ _ _ _)
  | addSPe => cases h; exact reaches_of_writes rfl rfl ((Writes.refl.setReg16 .SP _).setFlags _ _ _ _)
  | inc16 rr | dec16 rr => cases h; exact reaches_of_writes rfl rfl (Writes.refl.setReg16 rr _)
  | nop => cases h; exact reaches_of_writes rfl rfl .refl
  | jump | jumpHL | jumpRel => exact reaches_of_transfers rfl rfl rfl (jump_transfers h)
  | call => exact reaches_of_transfers rfl rfl rfl (call_transfers h)
  | ret => exact reaches_of_transfers rfl rfl rfl (ret_transfers h)
  | jumpIf | jumpRelIf => exact reaches_of_transfers rfl rfl rfl (whenCond_transfers jump_transfers h)
  | callIf => exact reaches_of_transfers rfl rfl rfl (whenCond_transfers call_transfers h)
  | retIf => exact reaches_of_transfers rfl rfl rfl (whenCond_transfers ret_transfers h)
  | retEnable => cases h; exact ⟨s.dropWord, s.dropWord_writes, nofun, rfl⟩
  | lowPower | setIme | decodeFault => cases h; exact ⟨s, .refl, fun _ => rfl, rfl⟩

/-- What each instruction can do, where it completes. -/
theorem exec_reaches {i : Instr} {s t : State} (h : exec i s = .next t) : (shapeOf i).Reaches s t :=
  (shapeOf i).run_reaches (exec_eq_shape i s ▸ h)

/-! ## What the rows write of PC, `ime`, the run state and the rest -/

theorem exec_pc {i : Instr} {s t : State} (h : exec i s = .next t) (hpc : (shapeOf i).movesPc = false) :
    t.pc = s.pc := by
  obtain ⟨u, hw, hkeep, -⟩ := exec_reaches h
  rw [hkeep hpc, hw.pc]

theorem exec_ime {i : Instr} {s t : State} (h : exec i s = .next t) : t.ime = (shapeOf i).imeAfter s.ime := by
  obtain ⟨u, -, -, ht⟩ := exec_reaches h
  rw [ht]

theorem exec_run {i : Instr} {s t : State} (h : exec i s = .next t) : t.run = (shapeOf i).runAfter s := by
  obtain ⟨u, -, -, ht⟩ := exec_reaches h
  rw [ht]

/-- No instruction writes the breakpoint set, the platform or the draw counter (R281, R47). -/
theorem exec_keeps {i : Instr} {s t : State} (h : exec i s = .next t) :
    t.bp = s.bp ∧ t.platform = s.platform ∧ t.draws = s.draws := by
  obtain ⟨u, hw, -, ht⟩ := exec_reaches h
  obtain ⟨-, -, hkeep⟩ := hw.keepsControl
  rw [ht]
  exact hkeep

theorem exec_mem_wf {i : Instr} {s t : State} (h : exec i s = .next t) (hs : s.mem.wf) : t.mem.wf := by
  obtain ⟨u, hw, -, ht⟩ := exec_reaches h
  rw [ht]
  exact hw.mem_wf hs

theorem exec_flags_low {i : Instr} {s t : State} (h : exec i s = .next t) (hs : s.f &&& 0x0F#8 = 0#8) :
    t.f &&& 0x0F#8 = 0#8 := by
  obtain ⟨u, hw, -, ht⟩ := exec_reaches h
  rw [ht]
  exact hw.flags_low hs

end Sys2Proof.Machine
end

section
/-! SUPPORT. The invariant of the machine: every step keeps it, and the reset state has it. -/

namespace Sys2Proof.Machine

/-- The rows that take the decode failure are those of the undefined bytes (R90, R270). -/
theorem shapeOf_decodeFault {i : Instr} {op : Byte} (h : shapeOf i = .decodeFault op) : op ∈ undefinedBytes := by
  cases i <;> cases h <;> decide

/-- Running a row from a running state leaves a failure recorded as R270 says, or none. -/
theorem exec_faultRecorded {i : Instr} {s t : State} (h : exec i s = .next t) (hs : s.run = .running) :
    t.FaultRecorded := by
  have hrun := exec_run h
  unfold State.FaultRecorded
  cases hx : shapeOf i with
  | decodeFault op =>
    have hpc : t.pc = s.pc := exec_pc h (by rw [hx]; rfl)
    simp [hrun, hx, Shape.runAfter, hpc, shapeOf_decodeFault hx]
  | _ => simp [hrun, hx, Shape.runAfter, hs]

theorem exec_inv {i : Instr} {s t : State} (h : exec i s = .next t) (hs : s.Inv) (hrun : s.run = .running) :
    t.Inv := by
  obtain ⟨hbp, -⟩ := exec_keeps h
  exact ⟨exec_mem_wf h hs.mem_wf, exec_flags_low h hs.flags_low, hbp ▸ hs.bp_ascending, exec_faultRecorded h hrun⟩

theorem State.advance_inv (s : State) (i : Instr) (hs : s.Inv) : (s.advance i).Inv :=
  ⟨hs.mem_wf, hs.flags_low, hs.bp_ascending, trivial⟩

end Sys2Proof.Machine

namespace Sys2Proof.Proofs

open Sys2Proof.Machine

/-- Settles O49: a stopped core keeps its state, and a running one executes from a state that has the invariant. -/
theorem everyStepKeepsTheForm : Obligations.EveryStepKeepsTheForm := by
  intro s t hs h
  by_cases hrun : s.run.steppable
  · rw [step_steppable s hrun] at h
    exact exec_inv h (s.advance_inv _ hs) rfl
  · rw [step_stopped s (by simpa using hrun)] at h
    cases h
    exact hs

/-- Settles O50: the reset state lists no cell and no breakpoint, and F holds zero. -/
theorem resetHasTheForm : Obligations.ResetHasTheForm :=
  ⟨reset_mem_wf, by decide, .nil, trivial⟩

end Sys2Proof.Proofs
end

section
/-! SUPPORT. No instruction reads `ime` or the breakpoint set: each operation runs alike whatever they hold. -/

namespace Sys2Proof.Machine

/-! ## A state with other values in the fields that no instruction reads -/

/-- The state with `ime` and the breakpoint set replaced. -/
def State.withUnread (s : State) (m : Bool) (bs : List Word) : State := { s with ime := m, bp := bs }

section Unread

variable (s : State) (m : Bool) (bs : List Word)

@[simp] theorem State.withUnread_a : (s.withUnread m bs).a = s.a := rfl
@[simp] theorem State.withUnread_c : (s.withUnread m bs).c = s.c := rfl
@[simp] theorem State.withUnread_sp : (s.withUnread m bs).sp = s.sp := rfl
@[simp] theorem State.withUnread_pc : (s.withUnread m bs).pc = s.pc := rfl
@[simp] theorem State.withUnread_flagZ : (s.withUnread m bs).flagZ = s.flagZ := rfl
@[simp] theorem State.withUnread_flagN : (s.withUnread m bs).flagN = s.flagN := rfl
@[simp] theorem State.withUnread_flagH : (s.withUnread m bs).flagH = s.flagH := rfl
@[simp] theorem State.withUnread_flagC : (s.withUnread m bs).flagC = s.flagC := rfl
@[simp] theorem State.withUnread_cond (cc : Cond) : (s.withUnread m bs).cond cc = s.cond cc := by cases cc <;> rfl
@[simp] theorem State.withUnread_reg8 (r : Reg8) : (s.withUnread m bs).reg8 r = s.reg8 r := by cases r <;> rfl
@[simp] theorem State.withUnread_reg16 (rr : Reg16) : (s.withUnread m bs).reg16 rr = s.reg16 rr := by cases rr <;> rfl
@[simp] theorem State.withUnread_kindAt (a : Word) : (s.withUnread m bs).kindAt a = s.kindAt a := rfl
@[simp] theorem State.withUnread_loadByte (a : Word) : (s.withUnread m bs).loadByte a = s.loadByte a := rfl
@[simp] theorem State.withUnread_topWord : (s.withUnread m bs).topWord = s.topWord := rfl
@[simp] theorem Loc8.load_withUnread (l : Loc8) : l.load (s.withUnread m bs) = l.load s := by
  cases l <;> simp [Loc8.load]
@[simp] theorem Src8.load_withUnread (x : Src8) : x.load (s.withUnread m bs) = x.load s := by
  cases x <;> simp [Src8.load]
@[simp] theorem Src16.load_withUnread (x : Src16) : x.load (s.withUnread m bs) = x.load s := by
  cases x <;> simp [Src16.load]

@[simp] theorem State.setReg8_withUnread (r : Reg8) (v : Byte) :
    (s.withUnread m bs).setReg8 r v = (s.setReg8 r v).withUnread m bs := by cases r <;> rfl
@[simp] theorem State.setReg16_withUnread (rr : Reg16) (v : Word) :
    (s.withUnread m bs).setReg16 rr v = (s.setReg16 rr v).withUnread m bs := by cases rr <;> rfl
@[simp] theorem State.setFlags_withUnread (z n h c : Bool) :
    (s.withUnread m bs).setFlags z n h c = (s.setFlags z n h c).withUnread m bs := rfl
@[simp] theorem State.setOutFlags_withUnread (o : AluOut) :
    (s.withUnread m bs).setOutFlags o = (s.setOutFlags o).withUnread m bs := rfl
@[simp] theorem State.dropWord_withUnread : (s.withUnread m bs).dropWord = s.dropWord.withUnread m bs := rfl
@[simp] theorem State.stored_withUnread (a : Word) (v : Byte) :
    (s.withUnread m bs).stored a v = (s.stored a v).withUnread m bs := by
  unfold State.stored
  rw [State.withUnread_kindAt]
  split <;> rfl
@[simp] theorem Loc8.after_withUnread (l : Loc8) : l.after (s.withUnread m bs) = (l.after s).withUnread m bs := by
  rcases l with _ | ⟨_, _ | _ | _⟩ | _ | _ | _ <;> simp [Loc8.after]
@[simp] theorem Src8.after_withUnread (x : Src8) : x.after (s.withUnread m bs) = (x.after s).withUnread m bs := by
  cases x <;> simp [Src8.after]

end Unread

/-! ## Operations that leave the two fields and do not read them -/

/-- The answer of `k` does not depend on `ime` and the breakpoint set, which it leaves. -/
def Blind (k : State → Result) : Prop :=
  ∀ s m bs, k (s.withUnread m bs) = andThen (k s) fun t => .next (t.withUnread m bs)

theorem andThen_assoc (o : Result) (k l : State → Result) :
    andThen (andThen o k) l = andThen o fun s => andThen (k s) l := by cases o <;> rfl

theorem Blind.andThen {k l : State → Result} (hk : Blind k) (hl : Blind l) :
    Blind fun s => Machine.andThen (k s) l := by
  intro s m bs
  simp only [hk s m bs, andThen_assoc]
  congr 1
  funext t
  exact hl t m bs

/-- A write whose result commutes with a change of the two fields. -/
theorem blind_next {f : State → State} (hf : ∀ s m bs, f (s.withUnread m bs) = (f s).withUnread m bs) :
    Blind fun s => .next (f s) := fun s m bs => congrArg Host.Outcome.next (hf s m bs)

theorem storeByte_blind (a : Word) (v : Byte) : Blind (storeByte a v) := by
  intro s m bs
  rcases storeByte_cases s a v with ⟨hacc, h⟩ | ⟨hacc, h⟩
  · have h' := storeByte_eq (s.withUnread m bs) a v hacc
    rw [h, h', State.stored_withUnread]
    rfl
  · have h' := storeByte_refused (s.withUnread m bs) a v (by simpa using hacc)
    rw [h, h']
    rfl

theorem storeWord_blind (a v : Word) : Blind (storeWord a v) :=
  (storeByte_blind a _).andThen (storeByte_blind _ _)

theorem pushWord_blind (v : Word) : Blind (pushWord v) :=
  fun s => storeWord_blind (s.sp - 2#16) v { s with sp := s.sp - 2#16 }

theorem Loc8.store_blind (l : Loc8) (v : Byte) : Blind (l.store v) := by
  intro s m bs
  cases l with
  | reg r => simp [Loc8.store, Machine.andThen]
  | ind rr p =>
    exact (storeByte_blind (s.reg16 rr) v).andThen (blind_next (Loc8.ind rr p).after_withUnread) s m bs
  | abs nn => exact storeByte_blind nn v s m bs
  | highImm n => exact storeByte_blind (Config.highPage + zext16 n) v s m bs
  | highC => exact storeByte_blind (Config.highPage + zext16 s.c) v s m bs

theorem ld8_blind (dst : Loc8) (src : Src8) : Blind (ld8 dst src) := by
  intro s m bs
  simpa [ld8] using dst.store_blind (src.load s) (src.after s) m bs

theorem ld16_blind (dst : Dst16) (src : Src16) : Blind (ld16 dst src) := by
  intro s m bs
  cases dst with
  | reg rr => simp [ld16, Dst16.store, andThen]
  | abs nn => simpa [ld16, Dst16.store] using storeWord_blind nn (src.load s) s m bs

theorem ldHLSPe_blind (e : Byte) : Blind (ldHLSPe e) := blind_next (by simp)

theorem push16_blind (rr : Reg16) : Blind (push16 rr) := by
  intro s m bs
  simpa [push16] using pushWord_blind (s.reg16 rr) s m bs

theorem pop16_blind (rr : Reg16) : Blind (pop16 rr) := blind_next (by simp)

theorem aluAcc_blind (op : AluOp) (src : Src8) : Blind (aluAcc op src) := by
  cases op <;> exact blind_next (by simp)

theorem writeBack_blind (l : Loc8) (o : AluOut) : Blind (writeBack l o) :=
  (l.store_blind o.res).andThen (blind_next fun _ _ _ => rfl)

theorem incLoc_blind (l : Loc8) : Blind (incLoc l) := by
  intro s m bs
  simpa [incLoc] using writeBack_blind l (incByte (l.load s) s.flagC) s m bs

theorem decLoc_blind (l : Loc8) : Blind (decLoc l) := by
  intro s m bs
  simpa [decLoc] using writeBack_blind l (decByte (l.load s) s.flagC) s m bs

theorem addHLPair_blind (rr : Reg16) : Blind (addHLPair rr) := blind_next (by simp)

theorem inc16_blind (rr : Reg16) : Blind (inc16 rr) := blind_next (by simp)

theorem dec16_blind (rr : Reg16) : Blind (dec16 rr) := blind_next (by simp)

theorem rotLoc_blind (op : RotOp) (l : Loc8) : Blind (rotLoc op l) := by
  intro s m bs
  unfold rotLoc
  rw [Loc8.load_withUnread, State.withUnread_flagC]
  exact (l.store_blind _).andThen (blind_next fun _ _ _ => rfl) s m bs

theorem bitLoc_blind (b : Fin 8) (l : Loc8) : Blind (bitLoc b l) := blind_next (by simp)

theorem resLoc_blind (b : Fin 8) (l : Loc8) : Blind (resLoc b l) := by
  intro s m bs
  simpa [resLoc] using l.store_blind (l.load s &&& ~~~(1#8 <<< b.val)) s m bs

theorem setLoc_blind (b : Fin 8) (l : Loc8) : Blind (setLoc b l) := by
  intro s m bs
  simpa [setLoc] using l.store_blind (l.load s ||| (1#8 <<< b.val)) s m bs

theorem jump_blind (target : Word) : Blind (jump target) := fun _ _ _ => rfl

theorem jumpRel_blind (e : Byte) : Blind (jumpRel e) := fun _ _ _ => rfl

theorem call_blind (target : Word) : Blind (call target) :=
  fun s => (pushWord_blind s.pc).andThen (jump_blind target) s

theorem ret_blind : Blind ret := fun _ _ _ => rfl

theorem whenCond_blind (cc : Cond) {k : State → Result} (hk : Blind k) : Blind (whenCond cc k) := by
  intro s m bs
  unfold whenCond
  rw [State.withUnread_cond]
  split
  · exact hk s m bs
  · rfl

/-! ## All operations, and all instructions -/

/-- Every operation runs alike whatever `ime` and the breakpoint set hold. -/
theorem Shape.run_withUnread (x : Shape) (s : State) (m : Bool) (bs : List Word) :
    x.run (s.withUnread m bs) = andThen (x.run s) fun t => .next (t.withUnread (x.imeAfter m) bs) := by
  cases x with
  | ld8 dst src => exact ld8_blind dst src s m bs
  | ld16 dst src => exact ld16_blind dst src s m bs
  | ldHLSPe e => exact ldHLSPe_blind e s m bs
  | push16 rr => exact push16_blind rr s m bs
  | pop16 rr => exact pop16_blind rr s m bs
  | aluAcc op src => exact aluAcc_blind op src s m bs
  | incLoc l => exact incLoc_blind l s m bs
  | decLoc l => exact decLoc_blind l s m bs
  | addHLPair rr => exact addHLPair_blind rr s m bs
  | inc16 rr => exact inc16_blind rr s m bs
  | dec16 rr => exact dec16_blind rr s m bs
  | rotLoc op l => exact rotLoc_blind op l s m bs
  | bitLoc b l => exact bitLoc_blind b l s m bs
  | resLoc b l => exact resLoc_blind b l s m bs
  | setLoc b l => exact setLoc_blind b l s m bs
  | call nn => exact call_blind nn s m bs
  | jumpIf cc nn => exact whenCond_blind cc (jump_blind nn) s m bs
  | jumpRelIf cc e => exact whenCond_blind cc (jumpRel_blind e) s m bs
  | callIf cc nn => exact whenCond_blind cc (call_blind nn) s m bs
  | retIf cc => exact whenCond_blind cc ret_blind s m bs
  | adjustDecimal | complementA | setCarry | complementCarry | addSPe | rotAcc | jump | jumpHL | jumpRel | ret
  | retEnable | nop | lowPower | setIme | decodeFault => rfl

/-- No instruction reads `ime` or the breakpoint set (R23, R281). -/
theorem exec_withUnread {i : Instr} {s t : State} (h : exec i s = .next t) (m : Bool) (bs : List Word) :
    exec i (s.withUnread m bs) = .next (t.withUnread ((shapeOf i).imeAfter m) bs) := by
  rw [exec_eq_shape] at h ⊢
  rw [Shape.run_withUnread, h]
  rfl

/-! ## Which rows write `ime` -/

theorem shapeOf_imeAfter (i : Instr) (m : Bool) :
    (shapeOf i).imeAfter m = if i = .di then false else if i = .ei ∨ i = .reti then true else m := by
  cases i <;> rfl

end Sys2Proof.Machine

namespace Sys2Proof.Proofs

open Sys2Proof.Machine

/-- Settles O44: `shapeOf_imeAfter` says what each row leaves in `ime`, `exec_withUnread` that none reads it. -/
theorem onlyThreeInstructionsWriteIme : Obligations.OnlyThreeInstructionsWriteIme := by
  intro i s t h
  have hime := exec_ime h
  rw [shapeOf_imeAfter] at hime
  refine ⟨fun hdi hei hreti => ?_, fun hdi => ?_, fun hset => ?_, fun v => ⟨_, exec_withUnread h v s.bp, ?_⟩⟩
  · simpa [hdi, hei, hreti] using hime
  · simpa [hdi] using hime
  · rcases hset with rfl | rfl <;> simpa using hime
  · obtain ⟨hbp, -⟩ := exec_keeps h
    rw [← hbp]
    rfl

end Sys2Proof.Proofs
end

section
/-! SUPPORT. PC: what a step adds to it, and which rows write it. -/

namespace Sys2Proof.Machine

/-- A step moves PC past a defined row's bytes and not past an undefined byte (R20, R270). -/
theorem Instr.pcAdvance_eq (i : Instr) : i.pcAdvance = if i.wellFormed then (encode i).length else 0 := by
  cases i <;> rfl

/-- The rows that write PC are those whose first byte stands in 46_control.md. -/
theorem shapeOf_movesPc (i : Instr) : (shapeOf i).movesPc = (encode i).head?.any (· ∈ controlOpcodes) := by
  cases i <;> rfl

end Sys2Proof.Machine

namespace Sys2Proof.Proofs

open Sys2Proof.Machine

/-- Settles O47: the rows outside 46_control.md are those whose operation leaves PC. -/
theorem onlyControlTransferMovesThePc : Obligations.OnlyControlTransferMovesThePc := by
  constructor
  · rintro i s hrun rfl hwf
    rw [step_steppable s hrun, State.advance, Instr.pcAdvance_eq, if_pos hwf]
  · intro i s t h hop
    refine exec_pc h ?_
    rw [shapeOf_movesPc, Option.any_eq_false]
    simpa using hop

end Sys2Proof.Proofs
end

section
/-! SUPPORT. What a composite register reads after a write. -/

namespace Sys2Proof.Machine

/-- AF keeps what its low half can hold: bits 3..0 read zero (R13, R17). -/
theorem reg16_setReg16_AF (s : State) (v : Word) : (s.setReg16 .AF v).reg16 .AF = v &&& 0xFFF0#16 :=
  calc joinBytes (hiByte v) (loByte v &&& Config.flagMask)
      = joinBytes (hiByte v &&& 0xFF#8) (loByte v &&& Config.flagMask) := by
        rw [show (0xFF#8 : Byte) = BitVec.allOnes 8 by decide, BitVec.and_allOnes]
    _ = joinBytes (hiByte v) (loByte v) &&& joinBytes 0xFF#8 Config.flagMask := BitVec.and_append.symm
    _ = v &&& 0xFFF0#16 := by rw [joinBytes_hi_lo]; rfl

theorem reg16_setReg16 (s : State) (rr : Reg16) (v : Word) :
    (s.setReg16 rr v).reg16 rr = if rr = .AF then v &&& 0xFFF0#16 else v := by
  by_cases h : rr = .AF
  · subst h; simp [reg16_setReg16_AF]
  · simp [h, reg16_setReg16_self]

theorem KeepsRegs_setReg8 (s : State) (r : Reg8) (v : Byte) : KeepsRegs [r] s (s.setReg8 r v) :=
  (ChangesRegs_setReg8 s r v).1

end Sys2Proof.Machine

namespace Sys2Proof.Proofs

open Sys2Proof.Machine

/-- Settles O52: a word is its two bytes, and AF masks the low one. -/
theorem compositeRegistersReadBack : Obligations.CompositeRegistersReadBack := by
  intro s rr v r w
  exact ⟨reg16_setReg16 s rr v, KeepsRegs_setReg16 s rr v,
    joinBytes_toNat _ _, joinBytes_toNat _ _, joinBytes_toNat _ _, joinBytes_toNat _ _,
    ⟨hiByte_toNat v, loByte_toNat v⟩, ⟨hiByte_toNat v, loByte_toNat v⟩, ⟨hiByte_toNat v, loByte_toNat v⟩,
    ⟨hiByte_toNat v, rfl⟩, State.reg8_setReg8_self s r w, KeepsRegs_setReg8 s r w⟩

end Sys2Proof.Proofs
end

section
/-! SUPPORT. Kinds of cells: what a load reads after a store for every kind of access, and which cells of the
reference map are read back or ignore stores. -/

namespace Sys2Proof.Machine

/-! ## Loads after a store -/

/-- A cell that ignores stores is loaded as it stands (R51). -/
theorem State.readAs_readOnly (k : Access) {s : State} {a : Word} (h : s.kindAt a = .readOnly) :
    s.readAs k a = s.cell a := by simp [State.readAs, h]

/-- After a store that is read back, every access reads the byte at each address of the cell, and other cells as before
(R41, R42, R45). -/
theorem State.readAs_stored (k : Access) (s : State) (a b : Word) (v : Byte) (h : s.kindAt a = .storage) :
    (s.stored a v).readAs k b = if canon b = canon a then v else s.readAs k b := by
  split
  next hb =>
    have hkind : s.kindAt b = .storage := h ▸ s.kindAt_eq_of_canon b a hb
    simp [State.readAs, hkind, State.cell_stored, hb, h]
  next hb => simp [State.readAs, State.cell_stored, hb]

/-- A store that is read back completes in the stored state. -/
theorem storeByte_storage {s : State} {a : Word} (v : Byte) (h : s.kindAt a = .storage) :
    storeByte a v s = .next (s.stored a v) := storeByte_eq s a v (by simp [State.Accepts, h])

/-- A byte stored where stores are read back is read at every address of its cell, by every access. -/
theorem storeByte_reads_cell {s : State} {a b : Word} (v : Byte) (h : s.kindAt a = .storage)
    (hb : canon b = canon a) :
    ∃ t, storeByte a v s = .next t ∧ t.loadByte b = v ∧ t.fetchByte b = v ∧ t.hostLoad b = v := by
  have hread (k : Access) : (s.stored a v).readAs k b = v := by rw [State.readAs_stored k s a b v h, if_pos hb]
  exact ⟨_, storeByte_storage v h, hread .data, hread .fetch, hread .host⟩

/-! ## The reference map (R48) -/

/-- The translation on words (R45). -/
theorem canon_eq (a : Word) :
    canon a = if 0xE000 ≤ a.toNat ∧ a.toNat ≤ 0xFDFF then a - 0x2000#16 else a := by
  have h := canon_toNat a
  split at h
  next hecho => rw [if_pos hecho]; bv_omega
  next hecho => rw [if_neg hecho]; exact BitVec.eq_of_toNat_eq h

/-- An address of C000 to DDFF and the one 2000 above have one cell (R60). -/
theorem canon_echo {a : Word} (hlo : 0xC000 ≤ a.toNat) (hhi : a.toNat ≤ 0xDDFF) : canon (a + 0x2000#16) = canon a := by
  rw [canon_eq, if_pos (by bv_omega), canon_eq, if_neg (by omega), BitVec.add_sub_cancel]

theorem Region.contains_iff (r : Region) (c : Word) :
    r.contains c = true ↔ r.first.toNat ≤ c.toNat ∧ c.toNat ≤ r.last.toNat := by
  simp [Region.contains, BitVec.le_def]

theorem resolve_cons_of_contains {r : Region} {c : Word} (rs : List Region) (hfirst : r.first.toNat ≤ c.toNat)
    (hlast : c.toNat ≤ r.last.toNat) : resolve (r :: rs) c = some r := by
  rw [resolve, if_pos ((r.contains_iff c).2 ⟨hfirst, hlast⟩)]

theorem resolve_cons_of_above {r : Region} {c : Word} (rs : List Region) (hlast : r.last.toNat < c.toNat) :
    resolve (r :: rs) c = resolve rs c := by
  rw [resolve, if_neg fun h => Nat.not_le_of_lt hlast ((r.contains_iff c).1 h).2]

/-- C000 to DFFF is the internal RAM. -/
theorem resolve_internalRam {c : Word} (hlo : 0xC000 ≤ c.toNat) (hhi : c.toNat ≤ 0xDFFF) :
    resolve referenceRegions c = some ⟨.wram, Config.wramBase, Config.wramEnd, .storage⟩ := by
  have above {e : Word} (he : e.toNat < 0xC000) : e.toNat < c.toNat := Nat.lt_of_lt_of_le he hlo
  unfold referenceRegions
  rw [resolve_cons_of_above, resolve_cons_of_above, resolve_cons_of_above, resolve_cons_of_above,
    resolve_cons_of_contains]
  · exact hlo
  · exact hhi
  all_goals exact above (by decide)

/-- 0000 to 7FFF and A000 to BFFF are handed to the cartridge. -/
theorem resolve_cartridge {c : Word} (hc : c.toNat ≤ 0x7FFF ∨ (0xA000 ≤ c.toNat ∧ c.toNat ≤ 0xBFFF)) :
    (resolve referenceRegions c).map Region.kind = some .external := by
  unfold referenceRegions
  rcases hc with hrom | ⟨hlo, hhi⟩
  · rcases Nat.lt_or_ge 0x3FFF c.toNat with hx | h0
    · rw [resolve_cons_of_above _ (by exact hx), resolve_cons_of_contains _ (by exact hx) (by exact hrom)]; rfl
    · rw [resolve_cons_of_contains _ (Nat.zero_le _) (by exact h0)]; rfl
  · have above {e : Word} (he : e.toNat < 0xA000) : e.toNat < c.toNat := Nat.lt_of_lt_of_le he hlo
    rw [resolve_cons_of_above, resolve_cons_of_above, resolve_cons_of_above,
      resolve_cons_of_contains _ (by exact hlo) (by exact hhi)]
    · rfl
    all_goals exact above (by decide)

/-- Internal RAM is read back under every policy. -/
theorem kindAt_internalRam {s : State} {a : Word} (hs : s.platform.regions = referenceRegions) (hlo : 0xC000 ≤ a.toNat)
    (hhi : a.toNat ≤ 0xDFFF) : s.kindAt a = .storage := by
  have hcanon : canon a = a := by rw [canon_eq, if_neg (by omega)]
  simp [State.kindAt, Platform.cellKind, hcanon, hs, resolve_internalRam hlo hhi]

/-- The cells of a cartridge without a mapper ignore stores. -/
theorem kindAt_cartridge {s : State} {a : Word} (hs : s.platform = { referencePlatform with cartStore := .ignore })
    (ha : a.toNat ≤ 0x7FFF ∨ (0xA000 ≤ a.toNat ∧ a.toNat ≤ 0xBFFF)) : s.kindAt a = .readOnly := by
  have hcanon : canon a = a := by rw [canon_eq, if_neg (by omega)]
  obtain ⟨r, hres, hkind⟩ := Option.map_eq_some_iff.1 (resolve_cartridge ha)
  simp [State.kindAt, Platform.cellKind, hcanon, hs, referencePlatform, hres, hkind]

/-- On the reference platform every cell is read back, in every region and in none (R49, R51). -/
theorem kindAt_reference {s : State} (hs : s.platform = referencePlatform) (a : Word) : s.kindAt a = .storage := by
  rw [State.kindAt, hs, Platform.cellKind]
  split
  next r _ => cases r.kind <;> rfl
  next => rfl

end Sys2Proof.Machine

namespace Sys2Proof.Proofs

open Sys2Proof.Machine

/-- Settles O53: an address of internal RAM and its echo have one cell, which is read back. -/
theorem echoRangeIsInternalRam : Obligations.EchoRangeIsInternalRam := by
  intro s a v hs hlo hhi
  have hecho : canon (a + 0x2000#16) = canon a := canon_echo hlo hhi
  have hkind : s.kindAt a = .storage := kindAt_internalRam hs hlo (by omega)
  have hkind' : s.kindAt (a + 0x2000#16) = .storage := hkind ▸ s.kindAt_eq_of_canon _ _ hecho
  exact ⟨storeByte_reads_cell v hkind hecho, storeByte_reads_cell v hkind' hecho.symm⟩

/-- Settles O54: every cell of the reference platform is read back. -/
theorem referenceMapIsTotal : Obligations.ReferenceMapIsTotal := by
  intro s a b v hs
  have hkind := kindAt_reference hs a
  exact ⟨_, storeByte_storage v hkind, s.readAs_stored .data a b v hkind, s.readAs_stored .fetch a b v hkind, canon_eq a⟩

/-- Settles O55: the two byte stores of a word reach different cells, so both are read back. -/
theorem wordAccessIsLittleEndian : Obligations.WordAccessIsLittleEndian := by
  intro s a v hlow hhigh
  obtain ⟨-, hread, -⟩ := StoresOnly_stored_two s a (loByte v) (hiByte v)
  have hlo := hread (a, loByte v) (by simp) a rfl hlow
  have hhi := hread (a + 1#16, hiByte v) (by simp) (a + 1#16) rfl hhigh
  refine ⟨rfl, _, storeWord_eq s a v (by simp [State.Accepts, hlow]) (by simp [State.Accepts, hhigh]), hlo, hhi, ?_⟩
  rw [State.loadWord, hlo, hhi, joinBytes_hi_lo]

end Sys2Proof.Proofs
end

section
/-! SUPPORT. No step writes a cell that ignores stores. -/

namespace Sys2Proof.Machine

/-- Data writes leave every cell that ignores stores (R51). -/
theorem Writes.cell_readOnly {s t : State} (hw : Writes s t) {a : Word} (ha : s.kindAt a = .readOnly) :
    t.cell a = s.cell a := by
  induction hw with
  | refl => rfl
  | setReg8 _ _ _ ih | setReg16 _ _ _ ih | setFlags _ _ _ _ _ ih => simpa [State.cell] using ih
  | @stored u b v hw ih =>
    obtain ⟨-, -, -, hplatform, -⟩ := hw.keepsControl
    have hu : u.kindAt a = .readOnly := ha ▸ State.kindAt_congr s u a hplatform
    rw [State.cell_stored, if_neg fun ⟨hcanon, hb⟩ => hb (hu ▸ u.kindAt_eq_of_canon b a hcanon.symm), ih]

theorem exec_cell_readOnly {i : Instr} {s t : State} (h : exec i s = .next t) {a : Word}
    (ha : s.kindAt a = .readOnly) : t.cell a = s.cell a := by
  obtain ⟨u, hw, -, ht⟩ := exec_reaches h
  rw [ht]
  exact hw.cell_readOnly ha

/-- A step keeps the platform (R47) and every cell that ignores stores (R51). -/
theorem step_keeps_readOnly {s t : State} (h : step s = .next t) :
    t.platform = s.platform ∧ ∀ a, s.kindAt a = .readOnly → t.cell a = s.cell a := by
  by_cases hrun : s.run.steppable
  · rw [step_steppable s hrun] at h
    obtain ⟨-, hplatform, -⟩ := exec_keeps h
    exact ⟨hplatform, fun a ha => exec_cell_readOnly h ha⟩
  · rw [step_stopped s (by simpa using hrun)] at h
    cases h
    exact ⟨rfl, fun _ _ => rfl⟩

end Sys2Proof.Machine

namespace Sys2Proof.Proofs

open Sys2Proof.Machine

/-- Settles O48: the cartridge's cells ignore stores, before the step and, the platform being kept, after it. -/
theorem romWithoutMapperNeverChanges : Obligations.RomWithoutMapperNeverChanges := by
  intro s t a hs h ha
  obtain ⟨hplatform, hkeep⟩ := step_keeps_readOnly h
  have hkind : s.kindAt a = .readOnly := kindAt_cartridge hs ha
  have hkind' : t.kindAt a = .readOnly := hkind ▸ State.kindAt_congr s t a hplatform
  have hcell := hkeep a hkind
  exact ⟨hcell, by rw [State.hostLoad, State.hostLoad, State.readAs_readOnly .host hkind',
    State.readAs_readOnly .host hkind, hcell]⟩

end Sys2Proof.Proofs
end

section
/-! SUPPORT. Refusals: the addresses that each shared operation stores to, and that it is refused exactly at the first
of them that does not accept the store (R51). -/

namespace Sys2Proof.Machine

/-! ## Where an operation stores -/

/-- The addresses of a 16-bit destination, in the order of its stores (R44). -/
def Dst16.addrs : Dst16 → List Word
  | .reg _ => []
  | .abs nn => wordAddrs nn

/-- The addresses of a push (R154). -/
def State.pushAddrs (s : State) : List Word := wordAddrs (s.sp - 2#16)

/-- The addresses that an operation stores to in a state, in the order of its stores. -/
def Shape.storedAddrs (x : Shape) (s : State) : List Word :=
  match x with
  | .ld8 dst src => (dst.addr (src.after s)).toList
  | .ld16 dst _ => dst.addrs
  | .incLoc l | .decLoc l | .rotLoc _ l | .resLoc _ l | .setLoc _ l => (l.addr s).toList
  | .push16 _ | .call _ => s.pushAddrs
  | .callIf cc _ => if s.cond cc then s.pushAddrs else []
  | _ => []

/-- A high-page address as a sum of numbers (R81). -/
theorem highPage_add_zext16 (n : Byte) : Config.highPage + zext16 n = BitVec.ofNat 16 (0xFF00 + n.toNat) := by
  apply BitVec.eq_of_toNat_eq
  simp [Config.highPage, zext16]

/-- Each row stores where its operation does. -/
theorem storedAddrs_eq_shape (i : Instr) (s : State) : storedAddrs i s = (shapeOf i).storedAddrs s := by
  cases i
  case ldh_mn_A n => exact congrArg (fun a => [a]) (highPage_add_zext16 n).symm
  case ld_mC_A => exact congrArg (fun a => [a]) (highPage_add_zext16 s.c).symm
  all_goals rfl

/-! ## What an operation answers -/

/-- The answer `o` of an operation that stores to `as`: the refusal of the first address that does not accept the
store, or a next state where there is none. -/
def State.Answers (s : State) (as : List Word) (o : Result) : Prop :=
  match s.firstRefusing as with
  | some a => o = .refused (.externalCartStore (canon a))
  | none => ∃ t, o = .next t

theorem answers_next (s t : State) : s.Answers [] (.next t) := ⟨t, rfl⟩

/-- What follows the stores and always completes does not change which of them is refused. -/
theorem State.Answers.andThen_next {s : State} {as : List Word} {o : Result} (h : s.Answers as o)
    (f : State → State) : s.Answers as (andThen o fun t => .next (f t)) := by
  unfold State.Answers at h ⊢
  split at h
  · rw [h]; rfl
  · obtain ⟨t, rfl⟩ := h
    exact ⟨f t, rfl⟩

/-- Which store is refused depends on the platform alone. -/
theorem State.Answers.of_platform {s u : State} {as : List Word} {o : Result} (h : u.Answers as o)
    (hu : u.platform = s.platform) : s.Answers as o := by
  unfold State.Answers at h ⊢
  rwa [← State.firstRefusing_congr s u as hu]

theorem Loc8.store_answers (l : Loc8) (v : Byte) (s : State) : s.Answers (l.addr s).toList (l.store v s) := by
  cases l with
  | reg r => exact answers_next s _
  | ind rr p => exact State.Answers.andThen_next (storeByte_answers s (s.reg16 rr) v) _
  | abs _ | highImm _ | highC => exact storeByte_answers s _ v

theorem ld8_answers (dst : Loc8) (src : Src8) (s : State) :
    s.Answers (dst.addr (src.after s)).toList (ld8 dst src s) := by
  obtain ⟨-, -, -, hplatform, -⟩ : KeepsControl s (src.after s) := by
    cases src with
    | imm _ => exact Writes.refl.keepsControl
    | loc l => exact (l.after_writes .refl).keepsControl
  exact (dst.store_answers (src.load s) (src.after s)).of_platform hplatform

theorem Dst16.store_answers (dst : Dst16) (v : Word) (s : State) : s.Answers dst.addrs (dst.store v s) := by
  cases dst with
  | reg rr => exact answers_next s _
  | abs nn => exact storeWord_answers s nn v

theorem pushWord_answers (v : Word) (s : State) : s.Answers s.pushAddrs (pushWord v s) :=
  State.Answers.of_platform (storeWord_answers { s with sp := s.sp - 2#16 } (s.sp - 2#16) v) rfl

theorem call_answers (nn : Word) (s : State) : s.Answers s.pushAddrs (call nn s) :=
  (pushWord_answers s.pc s).andThen_next _

theorem whenCond_answers (cc : Cond) {k : State → Result} {s : State} {as : List Word} (h : s.Answers as (k s)) :
    s.Answers (if s.cond cc then as else []) (whenCond cc k s) := by
  unfold whenCond
  split
  · exact h
  · exact answers_next s s

theorem whenCond_answers_nil (cc : Cond) {k : State → Result} {s : State} (h : s.Answers [] (k s)) :
    s.Answers [] (whenCond cc k s) := by simpa only [ite_self] using whenCond_answers cc h

/-- An operation is refused exactly where one of its stores is, and completes everywhere else. -/
theorem Shape.run_answers (x : Shape) (s : State) : s.Answers (x.storedAddrs s) (x.run s) := by
  cases x with
  | ld8 dst src => exact ld8_answers dst src s
  | ld16 dst src => exact dst.store_answers _ s
  | incLoc l | decLoc l | rotLoc _ l => exact (l.store_answers _ s).andThen_next _
  | resLoc _ l | setLoc _ l => exact l.store_answers _ s
  | push16 rr => exact pushWord_answers _ s
  | call nn => exact call_answers nn s
  | callIf cc nn => exact whenCond_answers cc (call_answers nn s)
  | aluAcc op => cases op <;> exact answers_next s _
  | jumpIf cc | jumpRelIf cc | retIf cc => exact whenCond_answers_nil cc (answers_next s _)
  | ldHLSPe | pop16 | adjustDecimal | complementA | setCarry | complementCarry | addHLPair | inc16 | dec16 | addSPe
  | rotAcc | bitLoc | jump | jumpHL | jumpRel | ret | retEnable | nop | lowPower | setIme | decodeFault =>
    exact answers_next s _

theorem exec_answers (i : Instr) (s : State) : s.Answers (storedAddrs i s) (exec i s) := by
  rw [storedAddrs_eq_shape, exec_eq_shape]
  exact (shapeOf i).run_answers s

/-! ## Which cells refuse a store -/

theorem State.kindAt_of_firstRefusing {s : State} {as : List Word} {a : Word} (h : s.firstRefusing as = some a) :
    s.kindAt a = .refusing := by simpa using List.find?_some h

/-- Only the cells of a region of kind external refuse, and only under the policy `external` (R51). -/
theorem State.external_of_refusing {s : State} {a : Word} (h : s.kindAt a = .refusing) :
    s.platform.cartStore = .external ∧
      ∃ r, resolve s.platform.regions (canon a) = some r ∧ r.kind = .external := by
  cases hres : resolve s.platform.regions (canon a) with
  | none => cases hun : s.platform.unmapped <;> simp [State.kindAt, Platform.cellKind, hres, hun] at h
  | some r =>
    cases hkind : r.kind with
    | storage => simp [State.kindAt, Platform.cellKind, hres, hkind] at h
    | external =>
      cases hcart : s.platform.cartStore with
      | external => exact ⟨rfl, r, rfl, hkind⟩
      | storage | ignore => simp [State.kindAt, Platform.cellKind, hres, hkind, hcart] at h

end Sys2Proof.Machine

namespace Sys2Proof.Proofs

open Sys2Proof.Machine

/-- Settles O42: `exec_answers` says what each instruction answers, and a step runs one instruction or none. -/
theorem nothingFaultsAndOnlyExternalStoresAreRefused : Obligations.NothingFaultsAndOnlyExternalStoresAreRefused := by
  refine ⟨fun a v s => storeByte_refused s a v, fun i s => exec_answers i s, fun s => ?_⟩
  by_cases hrun : s.run.steppable
  · have hanswers := exec_answers s.fetchInstr (s.advance s.fetchInstr)
    rw [← step_steppable s hrun] at hanswers
    unfold State.Answers at hanswers
    split at hanswers
    next a ha =>
      obtain ⟨hcart, r, hres, hkind⟩ := State.external_of_refusing (State.kindAt_of_firstRefusing ha)
      exact .inr ⟨hcart, canon a, r, hanswers, hres, hkind⟩
    next => exact .inl hanswers
  · exact .inl ⟨s, step_stopped s (by simpa using hrun)⟩

end Sys2Proof.Proofs
end

section
/-! SUPPORT. The decoder's grids (R84 to R89) and the encoder's rows (opcode_table.json) agree. A byte is its three fields;
block by block, what the grid reads from the fields is encoded by that byte and the operands of its format. -/

namespace Sys2Proof

open Machine

/-! ## The byte of three fields -/

/-- The byte with the fields `x`, `y` and `z` (R71). -/
def opByte (x : Fin 4) (y z : Fin 8) : Byte := BitVec.ofNat 8 (64 * x + 8 * y + z)

@[simp] theorem opX_opByte (x : Fin 4) (y z : Fin 8) : opX (opByte x y z) = x := by
  simp only [opX, opByte, BitVec.toNat_ofNat]; omega

@[simp] theorem opY_opByte (x : Fin 4) (y z : Fin 8) : opY (opByte x y z) = y := by
  simp only [opY, opByte, BitVec.toNat_ofNat]; omega

@[simp] theorem opZ_opByte (x : Fin 4) (y z : Fin 8) : opZ (opByte x y z) = z := by
  simp only [opZ, opByte, BitVec.toNat_ofNat]; omega

theorem exists_opByte_eq (b : Byte) : ∃ x y z, opByte x y z = b := by
  have hb := b.isLt
  refine ⟨⟨opX b, ?_⟩, ⟨opY b, ?_⟩, ⟨opZ b, ?_⟩, BitVec.eq_of_toNat_eq ?_⟩ <;>
    simp only [opByte, opX, opY, opZ, BitVec.toNat_ofNat] <;> omega

/-! ## What a decoded instruction is encoded by -/

/-- The bytes after the first one: the operands that the format has (R71, R75 to R77), or the second byte of a prefixed
opcode. -/
def Format.operandBytes (n : Byte) (nn : Word) : Format → List Byte
  | .OP | .ILLEGAL => []
  | .OP_N | .OP_E | .CB_OP => [n]
  | .OP_NN => [loByte nn, hiByte nn]

theorem encode_decodeBlock0 (y z : Fin 8) (n : Byte) (nn : Word) :
    encode (decodeBlock0 y z n nn) = opByte 0 y z :: (formatOf (opByte 0 y z)).operandBytes n nn := by
  fin_cases z <;> fin_cases y <;> rfl

theorem encode_decodeBlock1 : ∀ y z : Fin 8,
    encode (decodeBlock1 y z) = [opByte 1 y z] ∧ formatOf (opByte 1 y z) = .OP := by decide

theorem encode_aluP_ofCode : ∀ y z : Fin 8,
    encode (aluP (aluOfCode y) (placeOfCode z)) = [opByte 2 y z] ∧ formatOf (opByte 2 y z) = .OP := by decide

/-- The hypothesis leaves out the byte CB, which opens the space of R89. -/
theorem encode_decodeBlock3 (y z : Fin 8) (n : Byte) (nn : Word) (h : opByte 3 y z ≠ Config.prefixByte) :
    encode (decodeBlock3 y z n nn) = opByte 3 y z :: (formatOf (opByte 3 y z)).operandBytes n nn := by
  fin_cases z <;> fin_cases y
  any_goals rfl
  exact absurd rfl h

theorem encode_rotP_ofCode : ∀ y z : Fin 8,
    encode (rotP (rotOfCode y) (placeOfCode z)) = [Config.prefixByte, opByte 0 y z] := by decide

theorem encode_bitP_ofCode : ∀ y z : Fin 8,
    encode (bitP (index8 y) (placeOfCode z)) = [Config.prefixByte, opByte 1 y z] := by decide

theorem encode_resP_ofCode : ∀ y z : Fin 8,
    encode (resP (index8 y) (placeOfCode z)) = [Config.prefixByte, opByte 2 y z] := by decide

theorem encode_setP_ofCode : ∀ y z : Fin 8,
    encode (setP (index8 y) (placeOfCode z)) = [Config.prefixByte, opByte 3 y z] := by decide

theorem encode_decodePrefixed (b : Byte) : encode (decodePrefixed b) = [Config.prefixByte, b] := by
  obtain ⟨x, y, z, rfl⟩ := exists_opByte_eq b
  fin_cases x
  · simpa [decodePrefixed] using encode_rotP_ofCode y z
  · simpa [decodePrefixed] using encode_bitP_ofCode y z
  · simpa [decodePrefixed] using encode_resP_ofCode y z
  · simpa [decodePrefixed] using encode_setP_ofCode y z

theorem encode_decode3 (b0 b1 b2 : Byte) :
    encode (decode3 b0 b1 b2) = b0 :: (formatOf b0).operandBytes b1 (joinBytes b2 b1) := by
  by_cases hprefix : b0 = Config.prefixByte
  · simp [decode3, hprefix, encode_decodePrefixed, formatOf, Format.operandBytes]
  obtain ⟨x, y, z, rfl⟩ := exists_opByte_eq b0
  rw [decode3, if_neg hprefix, opX_opByte, opY_opByte, opZ_opByte]
  fin_cases x
  · exact encode_decodeBlock0 y z b1 _
  · obtain ⟨hencode, hformat⟩ := encode_decodeBlock1 y z
    simpa [hformat, Format.operandBytes] using hencode
  · obtain ⟨hencode, hformat⟩ := encode_aluP_ofCode y z
    simpa [hformat, Format.operandBytes] using hencode
  · exact encode_decodeBlock3 y z b1 _ hprefix

theorem encode_decode3_eq_take (b0 b1 b2 : Byte) :
    encode (decode3 b0 b1 b2) = [b0, b1, b2].take (formatOf b0).length := by
  rw [encode_decode3]
  cases formatOf b0 <;> simp [Format.operandBytes, Format.length]

/-! ## What an encoded instruction is decoded to -/

/-- Each row is what the grid gives at its first byte. A word operand is joined again from its two bytes (R76); no other
operand is taken apart. -/
theorem exists_encode_decode3 (i : Instr) :
    ∃ b0 bs, encode i = b0 :: bs ∧ decode3 b0 (bs.getD 0 0) (bs.getD 1 0) = i := by
  cases i
  case ld_A_mnn nn | ld_mnn_A nn | ld_BC_nn nn | ld_DE_nn nn | ld_HL_nn nn | ld_SP_nn nn | ld_mnn_SP nn
      | jp_nn nn | jp_NZ_nn nn | jp_Z_nn nn | jp_NC_nn nn | jp_C_nn nn
      | call_nn nn | call_NZ_nn nn | call_Z_nn nn | call_NC_nn nn | call_C_nn nn =>
    exact ⟨_, _, rfl, .trans (by rfl) (congrArg _ (joinBytes_hi_lo nn))⟩
  all_goals exact ⟨_, _, rfl, rfl⟩

theorem encode_injective : Function.Injective encode := by
  intro i j h
  obtain ⟨b0, bs, hi, hdi⟩ := exists_encode_decode3 i
  obtain ⟨c0, cs, hj, hdj⟩ := exists_encode_decode3 j
  obtain ⟨rfl, rfl⟩ := List.cons.inj (hi.symm.trans (h.trans hj))
  exact hdi.symm.trans hdj

/-- The bytes past the format's length are not read (R71): instructions decoded under other ones are encoded alike, and
`encode` is injective. -/
theorem decode_take_append (b0 b1 b2 : Byte) (rest : List Byte) :
    decode ([b0, b1, b2].take (formatOf b0).length ++ rest) = .ok (decode3 b0 b1 b2, rest) := by
  have hread (c1 c2 : Byte) (h : [b0, c1, c2].take (formatOf b0).length = [b0, b1, b2].take (formatOf b0).length) :
      decode3 b0 c1 c2 = decode3 b0 b1 b2 := encode_injective (by simpa only [encode_decode3_eq_take] using h)
  obtain hlen | hlen | hlen : (formatOf b0).length = 1 ∨ (formatOf b0).length = 2 ∨ (formatOf b0).length = 3 := by
    have := formatOf_length_bounds b0; omega
  all_goals rw [hlen] at hread ⊢
  · rw [← hread (rest.getD 0 0) (rest.getD 1 0) rfl]
    exact decode_one b0 rest hlen
  · rw [← hread b1 (rest.getD 0 0) rfl]
    exact decode_two b0 b1 rest hlen
  · exact decode_three b0 b1 b2 rest hlen

theorem decode_encode_append (i : Instr) (rest : List Byte) : decode (encode i ++ rest) = .ok (i, rest) := by
  obtain ⟨b0, bs, -, rfl⟩ := exists_encode_decode3 i
  rw [encode_decode3_eq_take, decode_take_append]

theorem decode_of_encode {i : Instr} {bs : List Byte} (h : encode i = bs) : decode bs = .ok (i, []) := by
  simpa [h] using decode_encode_append i []

theorem length_decode3 (b0 b1 b2 : Byte) : (decode3 b0 b1 b2).length = (formatOf b0).length := by
  rw [Instr.length, encode_decode3_eq_take, List.length_take]
  exact min_eq_left (formatOf_length_bounds b0).2

theorem decode_three_bytes (b0 b1 b2 : Byte) (rest : List Byte) :
    decode (b0 :: b1 :: b2 :: rest) =
      .ok (decode3 b0 b1 b2, (b0 :: b1 :: b2 :: rest).drop (decode3 b0 b1 b2).length) := by
  have hsplit : b0 :: b1 :: b2 :: rest = [b0, b1, b2].take (formatOf b0).length ++
      (b0 :: b1 :: b2 :: rest).drop (formatOf b0).length := by
    cases formatOf b0 <;> rfl
  rw [length_decode3, ← decode_take_append, ← hsplit]

theorem wellFormed_of_encode_cons {i : Instr} {b0 : Byte} {bs : List Byte} (h : encode i = b0 :: bs)
    (hdef : b0 ∉ undefinedBytes) : i.wellFormed = true := by
  have hnone : i.undefinedByte = none := by cases bs <;> simp [Instr.undefinedByte, h, hdef]
  have hpc := Instr.pcAdvance_eq i
  by_contra hwf
  simp [Instr.pcAdvance, hnone, Instr.length, h, hwf] at hpc

end Sys2Proof

namespace Sys2Proof.Proofs

open Sys2Proof.Machine

/-- Settles O2: each block of the grid is encoded by its own bytes, and a format's operands are the bytes after the first. -/
theorem everyByteSequenceHasOneMeaning : Obligations.EveryByteSequenceHasOneMeaning := encode_decode3_eq_take

/-- Settles O1: an instruction is what its own bytes decode to, and no byte past them is read. -/
theorem everyEncodingDecodesBack : Obligations.EveryEncodingDecodesBack := decode_encode_append

/-- Settles O4: a defined byte decodes to what its own bytes encode, and that is not the row of an undefined byte. -/
theorem decodeFailsExactlyOnUndefinedBytes : Obligations.DecodeFailsExactlyOnUndefinedBytes := by
  intro b0 b1 b2 rest
  refine ⟨fun hundef => if_pos hundef, fun hdef => ⟨decode3 b0 b1 b2, ?_, ?_⟩⟩
  · exact (if_neg hdef).trans (decode_three_bytes b0 b1 b2 rest)
  · exact wellFormed_of_encode_cons (encode_decode3 b0 b1 b2) hdef

/-- Settles O3: each of the words is the encoding of its instruction. -/
theorem specWordsDecode : Obligations.SpecWordsDecode := by
  and_intros <;> exact decode_of_encode rfl

end Sys2Proof.Proofs
end

section
/-! SUPPORT. The operation `ld8` on its operands: what a load into a register and a store to memory leave, and the moves
of HL after the access. -/

namespace Sys2Proof.Machine

/-! ## Encodings of the families -/

theorem encode_ldRR (d r : Reg8) : encode (ldRR d r) = [BitVec.ofNat 8 (0x40 + 8 * regCode d + regCode r)] := by
  cases d <;> cases r <;> rfl

theorem encode_ldRN (d : Reg8) (n : Byte) : encode (ldRN d n) = [BitVec.ofNat 8 (0x06 + 8 * regCode d), n] := by
  cases d <;> rfl

theorem encode_ldRM (d : Reg8) : encode (ldRM d) = [BitVec.ofNat 8 (0x46 + 8 * regCode d)] := by cases d <;> rfl

theorem encode_ldMR (r : Reg8) : encode (ldMR r) = [BitVec.ofNat 8 (0x70 + regCode r)] := by cases r <;> rfl

/-! ## One change after another -/

theorem KeepsRegs.trans {ws vs : List Reg8} {s t u : State} (h : KeepsRegs ws s t) (h' : KeepsRegs vs t u) :
    KeepsRegs (vs ++ ws) s u := by
  intro r hr
  obtain ⟨hvs, hws⟩ := not_or.1 (mt List.mem_append.2 hr)
  exact (h' r hvs).trans (h r hws)

theorem KeepsControl.trans {s t u : State} (h : KeepsControl s t) (h' : KeepsControl t u) : KeepsControl s u := by
  obtain ⟨ime, run, bp, platform, draws⟩ := h
  obtain ⟨ime', run', bp', platform', draws'⟩ := h'
  exact ⟨ime'.trans ime, run'.trans run, bp'.trans bp, platform'.trans platform, draws'.trans draws⟩

/-- Stores are seen through what leaves memory as it is. -/
theorem StoresOnly.trans_keepsMemory {ws : List (Word × Byte)} {s t u : State} (h : StoresOnly ws s t)
    (h' : KeepsMemory t u) : StoresOnly ws s u := by simpa only [StoresOnly, h' _] using h

theorem ChangesRegs.trans {ws vs : List Reg8} {s t u : State} (h : ChangesRegs ws s t) (h' : ChangesRegs vs t u) :
    ChangesRegs (vs ++ ws) s u := by
  obtain ⟨regs, sp, pc, control, memory⟩ := h
  obtain ⟨regs', sp', pc', control', memory'⟩ := h'
  exact ⟨regs.trans regs', sp'.trans sp, pc'.trans pc, control.trans control',
    fun a => (memory' a).trans (memory a)⟩

theorem ChangesCells.trans_changesRegs {cs : List (Word × Byte)} {ws vs : List Reg8} {s t u : State}
    (h : ChangesCells cs ws s t) (h' : ChangesRegs vs t u) : ChangesCells cs (vs ++ ws) s u := by
  obtain ⟨regs, sp, pc, control, cells⟩ := h
  obtain ⟨regs', sp', pc', control', memory'⟩ := h'
  exact ⟨regs.trans regs', sp'.trans sp, pc'.trans pc, control.trans control', cells.trans_keepsMemory memory'⟩

theorem ChangesRegs_setReg16_HL (s : State) (v : Word) : ChangesRegs [.H, .L] s (s.setReg16 .HL v) :=
  ⟨KeepsRegs_setReg16 s .HL v, rfl, by simp, by simp [KeepsControl], fun a => by simp⟩

/-! ## Accesses at an operand's address -/

theorem Loc8.load_of_addr {l : Loc8} {s : State} {a : Word} (ha : l.addr s = some a) : l.load s = s.loadByte a := by
  cases l <;> cases ha <;> rfl

/-- A store to a memory operand that accepts it: the byte is stored, then the operand's register moves (R80). -/
theorem Loc8.store_of_addr {l : Loc8} {s : State} {a : Word} (ha : l.addr s = some a) (hacc : s.Accepts a) (v : Byte) :
    l.store v s = .next (l.after (s.stored a v)) := by
  have hstore := storeByte_eq s a v hacc
  cases l <;> cases ha
  case ind rr p => exact congrArg (fun o => andThen o fun t => .next ((Loc8.ind rr p).after t)) hstore
  all_goals exact hstore

/-- What the post-access change makes of the register's value (R80). -/
def Post.move : Post → Word → Word
  | .none, w => w
  | .inc, w => w + 1#16
  | .dec, w => w - 1#16

theorem Loc8.after_ind_HL (p : Post) (s : State) :
    (Loc8.ind .HL p).after s = s.setReg16 .HL (p.move (s.reg16 .HL)) := by
  cases p with
  | none => simp [Loc8.after, Post.move, State.setReg16, State.reg16]
  | inc | dec => rfl

/-! ## What the rows leave -/

/-- A load into a register (R120, R121). -/
theorem completes_ld8_reg {i : Instr} {s : State} {d : Reg8} {src : Src8} (hi : exec i s = ld8 (.reg d) src s)
    (hafter : src.after s = s) :
    Completes i s fun t => t.reg8 d = src.load s ∧ ChangesRegs [d] s t ∧ t.f = s.f := by
  refine ⟨s.setReg8 d (src.load s), ?_, by simp, ChangesRegs_setReg8 s d _, by simp⟩
  rw [hi, ld8, hafter]
  rfl

/-- A load into a register from the address of a memory operand (R122, R125, R126, R129, R131, R133). -/
theorem completes_ld8_reg_mem {i : Instr} {s : State} {d : Reg8} {l : Loc8} {a : Word}
    (hi : exec i s = ld8 (.reg d) (.loc l) s) (ha : l.addr s = some a) (hafter : l.after s = s) :
    Completes i s fun t => t.reg8 d = s.loadByte a ∧ ChangesRegs [d] s t ∧ t.f = s.f := by
  rw [← Loc8.load_of_addr ha]
  exact completes_ld8_reg hi hafter

/-- A store to the address of a memory operand (R123, R124, R127, R128, R130, R132, R134). -/
theorem completes_ld8_mem {i : Instr} {s : State} {l : Loc8} {src : Src8} {a : Word} (hi : exec i s = ld8 l src s)
    (ha : l.addr s = some a) (hsrc : src.after s = s) (hafter : ∀ t, l.after t = t) (hacc : s.Accepts a) :
    Completes i s fun t => ChangesCells [(a, src.load s)] [] s t ∧ t.f = s.f := by
  refine ⟨s.stored a (src.load s), ?_, ChangesCells_stored s a _, by simp⟩
  rw [hi, ld8, hsrc, Loc8.store_of_addr ha hacc, hafter]

/-- A load of A through HL, which then moves (R135, R137). -/
theorem completes_ld8_A_ind_HL {i : Instr} {s : State} (p : Post)
    (hi : exec i s = ld8 (.reg .A) (.loc (.ind .HL p)) s) :
    Completes i s fun t => t.a = s.loadByte (s.reg16 .HL) ∧ t.reg16 .HL = p.move (s.reg16 .HL) ∧
      ChangesRegs [.A, .H, .L] s t ∧ t.f = s.f := by
  refine ⟨((Loc8.ind .HL p).after s).setReg8 .A (s.loadByte (s.reg16 .HL)), hi, rfl, ?_⟩
  rw [Loc8.after_ind_HL]
  exact ⟨reg16_setReg16_self s .HL _ nofun, (ChangesRegs_setReg16_HL s _).trans (ChangesRegs_setReg8 _ .A _), rfl⟩

/-- A store of A through HL, which then moves (R136, R138). -/
theorem completes_ld8_ind_HL_A {i : Instr} {s : State} (p : Post)
    (hi : exec i s = ld8 (.ind .HL p) (.loc (.reg .A)) s) (hacc : s.Accepts (s.reg16 .HL)) :
    Completes i s fun t => t.reg16 .HL = p.move (s.reg16 .HL) ∧
      ChangesCells [(s.reg16 .HL, s.a)] [.H, .L] s t ∧ t.f = s.f := by
  refine ⟨_, hi.trans (Loc8.store_of_addr rfl hacc s.a), ?_⟩
  rw [Loc8.after_ind_HL, State.stored_reg16]
  exact ⟨reg16_setReg16_self _ .HL _ nofun,
    (ChangesCells_stored s _ _).trans_changesRegs (ChangesRegs_setReg16_HL _ _), State.stored_f s _ _⟩

end Sys2Proof.Machine

namespace Sys2Proof.Proofs

open Sys2Proof.Machine

/-- Settles O9: a load into a register whose source is a register. -/
theorem loadRegisterFromRegister : Obligations.LoadRegisterFromRegister :=
  fun d r s => ⟨encode_ldRR d r, completes_ld8_reg (exec_ldRR d r s) rfl⟩

/-- Settles O10: a load into a register whose source is the operand byte. -/
theorem loadRegisterFromImmediate : Obligations.LoadRegisterFromImmediate :=
  fun d n s => ⟨encode_ldRN d n, completes_ld8_reg (exec_ldRN d n s) rfl⟩

/-- Settles O11: the source is read before the register is written, so H and L are no exception. -/
theorem loadRegisterFromMemory : Obligations.LoadRegisterFromMemory :=
  fun d s => ⟨encode_ldRM d, completes_ld8_reg_mem (exec_ldRM d s) rfl rfl⟩

/-- Settles O12: both are stores at the address in HL, which does not move. -/
theorem storeToMemoryAtHL : Obligations.StoreToMemoryAtHL :=
  fun r n s => ⟨encode_ldMR r, rfl, fun hacc =>
    ⟨completes_ld8_mem (exec_ldMR r s) rfl rfl (fun _ => rfl) hacc,
      completes_ld8_mem (exec_eq_shape (.ld_mHL_n n) s) rfl rfl (fun _ => rfl) hacc⟩⟩

/-- Settles O13: five loads of A that differ in the address of the source. -/
theorem loadAccumulatorFromMemory : Obligations.LoadAccumulatorFromMemory := by
  intro n nn s
  refine ⟨rfl, rfl, rfl, rfl, rfl, ?_⟩
  simp only [List.forall_mem_cons]
  exact ⟨completes_ld8_reg_mem (exec_eq_shape .ld_A_mBC s) rfl rfl,
    completes_ld8_reg_mem (exec_eq_shape .ld_A_mDE s) rfl rfl,
    completes_ld8_reg_mem (exec_eq_shape (.ld_A_mnn nn) s) rfl rfl,
    completes_ld8_reg_mem (exec_eq_shape (.ldh_A_mn n) s) (congrArg some (highPage_add_zext16 n)) rfl,
    completes_ld8_reg_mem (exec_eq_shape .ld_A_mC s) (congrArg some (highPage_add_zext16 s.c)) rfl,
    List.forall_mem_nil _⟩

/-- Settles O14: five stores of A that differ in the address of the destination. -/
theorem storeAccumulatorToMemory : Obligations.StoreAccumulatorToMemory := by
  intro n nn s
  refine ⟨rfl, rfl, rfl, rfl, rfl, ?_⟩
  simp only [List.forall_mem_cons]
  exact ⟨completes_ld8_mem (exec_eq_shape .ld_mBC_A s) rfl rfl fun _ => rfl,
    completes_ld8_mem (exec_eq_shape .ld_mDE_A s) rfl rfl fun _ => rfl,
    completes_ld8_mem (exec_eq_shape (.ld_mnn_A nn) s) rfl rfl fun _ => rfl,
    completes_ld8_mem (exec_eq_shape (.ldh_mn_A n) s) (congrArg some (highPage_add_zext16 n)) rfl fun _ => rfl,
    completes_ld8_mem (exec_eq_shape .ld_mC_A s) (congrArg some (highPage_add_zext16 s.c)) rfl fun _ => rfl,
    List.forall_mem_nil _⟩

/-- Settles O15: each row is an access through HL and the move of HL that its operand names. -/
theorem postIncrementAndDecrementLoads : Obligations.PostIncrementAndDecrementLoads :=
  fun s => ⟨rfl, rfl, rfl, rfl,
    completes_ld8_A_ind_HL .inc (exec_eq_shape .ld_A_mHLi s),
    completes_ld8_A_ind_HL .dec (exec_eq_shape .ld_A_mHLd s),
    fun hacc => ⟨completes_ld8_ind_HL_A .inc (exec_eq_shape .ld_mHLi_A s) hacc,
      completes_ld8_ind_HL_A .dec (exec_eq_shape .ld_mHLd_A s) hacc⟩⟩

end Sys2Proof.Proofs
end

section
/-! SUPPORT. 16-bit loads and the stack: what a write of a 16-bit register leaves, the sum of SP and an offset, and the
word that a push leaves on top of the stack. -/

namespace Sys2Proof.Machine

/-! ## Encodings of the families -/

theorem encode_ldPairNN (p : Pair) (nn : Word) :
    encode (ldPairNN p nn) = [BitVec.ofNat 8 (0x01 + 16 * pairCode p), loByte nn, hiByte nn] := by cases p <;> rfl

theorem encode_pushP (p : StackPair) : encode (pushP p) = [BitVec.ofNat 8 (0xC5 + 16 * stackPairCode p)] := by
  cases p <;> rfl

theorem encode_popP (p : StackPair) : encode (popP p) = [BitVec.ofNat 8 (0xC1 + 16 * stackPairCode p)] := by
  cases p <;> rfl

/-! ## The frame of a write of a 16-bit register -/

theorem pairReg_ne_AF (p : Pair) : pairReg p ≠ .AF := by cases p <;> decide

theorem pairReg_eq_SP_iff (p : Pair) : pairReg p = .SP ↔ p = .SP := by cases p <;> decide

theorem stackPairReg_ne_SP (p : StackPair) : stackPairReg p ≠ .SP := by cases p <;> decide

theorem stackPairReg_eq_AF_iff (p : StackPair) : stackPairReg p = .AF ↔ p = .AF := by cases p <;> decide

theorem State.setReg16_sp {rr : Reg16} (h : rr ≠ .SP) (s : State) (v : Word) : (s.setReg16 rr v).sp = s.sp := by
  cases rr with
  | SP => exact absurd rfl h
  | AF | BC | DE | HL => rfl

theorem State.setReg16_f {rr : Reg16} (h : rr ≠ .AF) (s : State) (v : Word) : (s.setReg16 rr v).f = s.f := by
  cases rr with
  | AF => exact absurd rfl h
  | BC | DE | HL | SP => rfl

theorem KeepsControl_setReg16 (s : State) (rr : Reg16) (v : Word) : KeepsControl s (s.setReg16 rr v) := by
  simp [KeepsControl]

theorem KeepsMemory_setReg16 (s : State) (rr : Reg16) (v : Word) : KeepsMemory s (s.setReg16 rr v) :=
  s.setReg16_loadByte rr v

/-- The flags of an F whose low half is cleared are the bits of the byte (R15, R17). -/
theorem FlagsAre_of_f {t : State} {v : Byte} (hf : t.f = v &&& Config.flagMask) :
    FlagsAre t (v.getLsbD 7) (v.getLsbD 6) (v.getLsbD 5) (v.getLsbD 4) := by
  have bit (k : Nat) (hk : Config.flagMask.getLsbD k = true) : t.f.getLsbD k = v.getLsbD k := by
    rw [hf, BitVec.getLsbD_and, hk, Bool.and_true]
  exact ⟨bit 7 rfl, bit 6 rfl, bit 5 rfl, bit 4 rfl, hf ▸ and_flagMask_low v⟩

/-- A byte whose low half is zero is not changed by the mask of F (R17). -/
theorem and_flagMask_of_low {v : Byte} (h : v &&& 0x0F#8 = 0#8) : v &&& Config.flagMask = v :=
  calc v &&& Config.flagMask
      = (v &&& Config.flagMask) ||| (v &&& 0x0F#8) := by rw [h, BitVec.or_zero]
    _ = v &&& (Config.flagMask ||| 0x0F#8) := BitVec.and_or_distrib_left.symm
    _ = v := BitVec.and_allOnes

/-! ## SP plus an offset (R153, R203) -/

/-- The sum is the one of the exact integers (R5, R77). -/
theorem addOffset_res (sp : Word) (e : Byte) :
    (addOffset sp e).res = BitVec.ofInt 16 ((sp.toNat : Int) + e.toInt) := by
  rw [addOffset, sext16_eq_ofInt, BitVec.ofInt_add, BitVec.ofInt_natCast, BitVec.ofNat_toNat, BitVec.setWidth_eq]

/-! ## The stack -/

/-- A word stored where both its cells are read back is loaded again (R43, R44). -/
theorem StoresOnly.loadWord {a v : Word} {s t : State} (h : StoresOnly (wordCells a v) s t)
    (hlow : s.kindAt a = .storage) (hhigh : s.kindAt (a + 1#16) = .storage) : t.loadWord a = v := by
  obtain ⟨-, hread, -⟩ := h
  have hlo : t.loadByte a = loByte v := hread (a, loByte v) (by simp [wordCells]) a rfl hlow
  have hhi : t.loadByte (a + 1#16) = hiByte v := hread (a + 1#16, hiByte v) (by simp [wordCells]) _ rfl hhigh
  rw [State.loadWord, hlo, hhi, joinBytes_hi_lo]

end Sys2Proof.Machine

namespace Sys2Proof.Proofs

open Sys2Proof.Machine

/-- Settles O18: the sum is that of the exact integers, and F is written after it. -/
theorem stackPointerPlusOffset : Obligations.StackPointerPlusOffset := by
  intro e s
  rw [← addOffset_res]
  refine ⟨rfl, rfl, e8_eq_toInt e, ⟨_, exec_eq_shape (.ld_HL_SPe e) s, ?_⟩, ⟨_, exec_eq_shape (.add_SP_e e) s, ?_⟩⟩
  · exact ⟨reg16_setReg16_self s .HL _ nofun, ChangesRegs_setFlags _ _ _ _ _ _ _ (ChangesRegs_setReg16_HL s _),
      FlagsAre_setFlags _ _ _ _ _⟩
  · exact ⟨rfl, fun r _ => by cases r <;> rfl, rfl, by simp [KeepsControl], fun a => by simp,
      FlagsAre_setFlags _ _ _ _ _⟩

/-- Settles O16: a write of a 16-bit register, none of which is AF. -/
theorem loadPairFromImmediate : Obligations.LoadPairFromImmediate :=
  fun p nn s => ⟨encode_ldPairNN p nn, s.setReg16 (pairReg p) nn, exec_ldPairNN p nn s,
    reg16_setReg16_self s _ nn (pairReg_ne_AF p), KeepsRegs_setReg16 s _ nn,
    fun hsp => s.setReg16_sp (mt (pairReg_eq_SP_iff p).1 hsp) nn, s.setReg16_f (pairReg_ne_AF p) nn,
    s.setReg16_pc _ nn, KeepsControl_setReg16 s _ nn, KeepsMemory_setReg16 s _ nn⟩

/-- Settles O17: a word store at the operand's address, and a write of SP. -/
theorem storeAndLoadStackPointer : Obligations.StoreAndLoadStackPointer := by
  intro nn s
  refine ⟨rfl, rfl, fun hlow hhigh => ?_, s.setReg16 .SP (s.reg16 .HL), exec_eq_shape .ld_SP_HL s, rfl,
    KeepsRegs_setReg16 s .SP _, rfl, rfl, KeepsControl_setReg16 s .SP _, KeepsMemory_setReg16 s .SP _⟩
  refine ⟨_, (exec_eq_shape (.ld_mnn_SP nn) s).trans (storeWord_eq s nn s.sp hlow hhigh), ?_, by simp⟩
  exact ⟨fun r _ => by simp, by simp, by simp, by simp [KeepsControl], StoresOnly_stored_two s nn _ _⟩

/-- Settles O19: a push of the pair's word. -/
theorem pushStoresThePair : Obligations.PushStoresThePair := by
  intro p s
  refine ⟨encode_pushP p, fun hlow hhigh => ?_⟩
  rw [Completes, exec_pushP]
  exact pushWord_next s _ hlow hhigh

/-- Settles O20: a write of the pair after SP has moved; only AF's write reaches F. -/
theorem popLoadsThePair : Obligations.PopLoadsThePair := by
  intro p s
  refine ⟨encode_popP p, s.dropWord.setReg16 (stackPairReg p) s.topWord, exec_popP p s,
    s.dropWord.setReg16_sp (stackPairReg_ne_SP p) _, s.dropWord.setReg16_pc _ _, ?_,
    KeepsControl_setReg16 s.dropWord _ _, fun a => by simp, fun hp => ?_, ?_⟩
  · exact fun r hr => (KeepsRegs_setReg16 s.dropWord _ _ r hr).trans (by cases r <;> rfl)
  · have hne : stackPairReg p ≠ .AF := mt (stackPairReg_eq_AF_iff p).1 hp
    exact ⟨reg16_setReg16_self s.dropWord _ _ hne, s.dropWord.setReg16_f hne _⟩
  · rintro rfl
    have hf : (s.dropWord.setReg16 .AF s.topWord).f = s.loadByte s.sp &&& Config.flagMask :=
      congrArg (· &&& Config.flagMask) (loByte_joinBytes _ _)
    exact ⟨hiByte_joinBytes _ _, hf, FlagsAre_of_f hf⟩

/-- Settles O21: the word on top of the stack after the push is the pair's, and the pop writes it. -/
theorem pushThenPopCopies : Obligations.PushThenPopCopies := by
  intro p q s hlow hhigh
  obtain ⟨-, hpush⟩ := pushStoresThePair p s
  obtain ⟨t, hexec, hsp, hpc, -, -, -, hcells⟩ :=
    hpush (by simp [State.Accepts, hlow]) (by simp [State.Accepts, hhigh])
  have htop : t.topWord = s.reg16 (stackPairReg p) := by
    rw [State.topWord, hsp, hcells.loadWord hlow hhigh]
  refine ⟨t, t.dropWord.setReg16 (stackPairReg q) (s.reg16 (stackPairReg p)), hexec, ?_, ?_, ?_, ?_, ?_⟩
  · rw [exec_popP, pop16, htop]
  · rw [State.setReg16_sp (stackPairReg_ne_SP q), State.dropWord_sp, hsp, BitVec.sub_add_cancel]
  · rw [State.setReg16_pc, State.dropWord_pc, hpc]
  · simp only [reg16_setReg16, stackPairReg_eq_AF_iff]
  · rintro rfl rfl hf
    exact ⟨hiByte_joinBytes s.a s.f, (congrArg (· &&& Config.flagMask) (loByte_joinBytes s.a s.f)).trans
      (and_flagMask_of_low hf)⟩

end Sys2Proof.Proofs
end

section
/-! SUPPORT. 8-bit arithmetic and logic: the rows of the family write a result back to an operand and its flags to F, or
the flags alone; the results and flags of the pure functions as exact numbers. -/

namespace Sys2Proof.Machine

/-! ## Encodings of the families -/

theorem encode_aluP (op : AluOp) (x : Place8) :
    encode (aluP op x) = [BitVec.ofNat 8 (0x80 + 8 * aluCode op + placeCode x)] := by
  cases x with
  | reg r => cases op <;> cases r <;> rfl
  | mHL => cases op <;> rfl

theorem encode_aluN (op : AluOp) (n : Byte) :
    encode (aluN op n) = [BitVec.ofNat 8 (0xC6 + 8 * aluCode op), n] := by cases op <;> rfl

theorem aluEncoded (op : AluOp) : AluEncoded op := ⟨encode_aluP op, encode_aluN op⟩

theorem encode_incP (x : Place8) : encode (incP x) = [BitVec.ofNat 8 (0x04 + 8 * placeCode x)] := by
  cases x with
  | reg r => cases r <;> rfl
  | mHL => rfl

theorem encode_decP (x : Place8) : encode (decP x) = [BitVec.ofNat 8 (0x05 + 8 * placeCode x)] := by
  cases x with
  | reg r => cases r <;> rfl
  | mHL => rfl

/-! ## What the rows leave -/

/-- A result is written back to an operand that can be written, and its flags to F (R80). -/
theorem completes_writeBack {i : Instr} {s : State} {x : Place8} {o : AluOut}
    (hi : exec i s = writeBack (placeLoc x) o s) (hx : placeWritable s x) :
    Completes i s fun t => WritesPlace x o.res s t ∧ FlagsAre t o.z o.n o.h o.c := by
  obtain ⟨t, hstore, hwrites, -⟩ := placeLoc_store s x o.res hx
  refine ⟨t.setOutFlags o, ?_, WritesPlace_setFlags x o.res s t o.z o.n o.h o.c hwrites, FlagsAre_setOutFlags t o⟩
  rw [hi, writeBack, hstore]
  rfl

theorem ChangesRegs.refl (s : State) : ChangesRegs [] s s :=
  ⟨fun _ _ => rfl, rfl, rfl, ⟨rfl, rfl, rfl, rfl, rfl⟩, fun _ => rfl⟩

/-- A row that writes the flags and nothing else (R177, R182, R183). -/
theorem completes_setFlags {i : Instr} {s : State} {z n h c : Bool} (hi : exec i s = .next (s.setFlags z n h c)) :
    Completes i s fun t => ChangesRegs [] s t ∧ FlagsAre t z n h c :=
  ⟨_, hi, ChangesRegs_setFlags [] s s z n h c (ChangesRegs.refl s), FlagsAre_setFlags s z n h c⟩

/-- Every form runs the accumulator operation on a source that loads the form's value. -/
theorem exec_aluForm {op : AluOp} {s : State} {i : Instr} {v : Byte} (hform : AluForm op s i v) :
    ∃ src : Src8, exec i s = aluAcc op src s ∧ src.load s = v := by
  obtain ⟨x, rfl, rfl⟩ | rfl := hform
  · exact ⟨.loc (placeLoc x), exec_aluP op x s, placeLoc_load s x⟩
  · exact ⟨.imm v, exec_aluN op v s, rfl⟩

/-- The result goes to A and its flags to F, and nothing else changes. -/
def TakesResult (o : AluOut) (s t : State) : Prop := t.a = o.res ∧ ChangesRegs [.A] s t ∧ FlagsAre t o.z o.n o.h o.c

/-- A row that writes a result back to A. -/
theorem completes_takesResult {i : Instr} {s : State} {o : AluOut} (hi : exec i s = writeBack (.reg .A) o s) :
    Completes i s (TakesResult o s) := by
  obtain ⟨t, hexec, ⟨ha, hregs⟩, hflags⟩ := completes_writeBack (x := .reg .A) hi trivial
  exact ⟨t, hexec, ha, hregs, hflags⟩

/-- The forms of every accumulator operation but `CP` take the operation's result (R170 to R176). -/
theorem completes_aluForm {op : AluOp} (hop : op ≠ .CP) {s : State} {i : Instr} {v : Byte}
    (hform : AluForm op s i v) : Completes i s (TakesResult (aluOut op s.a v s.flagC) s) := by
  obtain ⟨src, hexec, rfl⟩ := exec_aluForm hform
  refine completes_takesResult (hexec.trans ?_)
  cases op with
  | CP => exact absurd rfl hop
  | ADD | ADC | SUB | SBC | AND | XOR | OR => rfl

theorem completes_daa (s : State) : Completes .daa s (TakesResult (daaByte s.a s.flagN s.flagH s.flagC) s) :=
  completes_takesResult (exec_eq_shape .daa s)

/-- The forms of `CP` write the flags of the difference (R177). -/
theorem exec_aluForm_CP {s : State} {i : Instr} {v : Byte} (hform : AluForm .CP s i v) :
    exec i s = .next (s.setOutFlags (subBytes s.a v false)) := by
  obtain ⟨src, hexec, rfl⟩ := exec_aluForm hform
  exact hexec

/-! ## Sums and differences (R170 to R173, R177) -/

theorem addBytes_res_toNat (a v : Byte) (c : Bool) :
    (addBytes a v c).res.toNat = (a.toNat + v.toNat + c.toNat) % 256 := BitVec.toNat_ofNat _ 8

theorem addBytes_z (a v : Byte) (c : Bool) :
    (addBytes a v c).z = decide ((a.toNat + v.toNat + c.toNat) % 256 = 0) :=
  decide_eq_decide.2 BitVec.toNat_inj.symm

theorem subBytes_res_toNat (a v : Byte) (c : Bool) :
    ((subBytes a v c).res.toNat : Int) = ((a.toNat : Int) - v.toNat - c.toNat) % 256 := by
  rw [subBytes, BitVec.toNat_ofInt]
  exact Int.toNat_of_nonneg (Int.emod_nonneg _ (by decide))

theorem subBytes_z (a v : Byte) (c : Bool) :
    (subBytes a v c).z = decide (((a.toNat : Int) - v.toNat - c.toNat) % 256 = 0) := by
  rw [← subBytes_res_toNat]
  exact decide_eq_decide.2 (BitVec.toNat_inj.symm.trans Int.natCast_eq_zero.symm)

theorem subBytes_res_of_no_carry (a v : Byte) : (subBytes a v false).res = a - v := by
  apply BitVec.eq_of_toNat_eq
  have hres := subBytes_res_toNat a v false
  rw [BitVec.toNat_sub]
  simp only [Bool.toNat_false] at hres
  omega

theorem subBytes_z_of_no_carry (a v : Byte) : (subBytes a v false).z = decide (a = v) :=
  calc decide ((subBytes a v false).res = 0#8)
      = decide (a = v) := by rw [subBytes_res_of_no_carry]; exact decide_eq_decide.2 sub_eq_zero

/-- The forms that add with the carry in `c` (R170, R171). -/
theorem completes_addBytes {i : Instr} {s : State} {v : Byte} {c : Bool}
    (h : Completes i s (TakesResult (addBytes s.a v c) s)) :
    Completes i s fun t => t.a.toNat = (s.a.toNat + v.toNat + c.toNat) % 256 ∧ ChangesRegs [.A] s t ∧
      FlagsAre t (decide ((s.a.toNat + v.toNat + c.toNat) % 256 = 0)) false
        (decide (s.a.toNat % 16 + v.toNat % 16 + c.toNat > 0xF)) (decide (s.a.toNat + v.toNat + c.toNat > 0xFF)) := by
  obtain ⟨t, hexec, ha, hregs, hflags⟩ := h
  rw [addBytes_z] at hflags
  exact ⟨t, hexec, ha ▸ addBytes_res_toNat s.a v c, hregs, hflags⟩

/-! ## One more and one less (R178, R179) -/

theorem incByte_res (v : Byte) (c : Bool) : (incByte v c).res = BitVec.ofNat 8 (v.toNat + 1) := by
  rw [BitVec.ofNat_add, BitVec.ofNat_toNat, BitVec.setWidth_eq]
  rfl

theorem incByte_z (v : Byte) (c : Bool) : (incByte v c).z = decide (v.toNat = 255) :=
  calc decide (v + 1#8 = 0#8)
      = decide (v.toNat = 255) := decide_eq_decide.2 (by bv_omega)

/-- One less is 255 more (R5). -/
theorem decByte_res (v : Byte) (c : Bool) : (decByte v c).res = BitVec.ofNat 8 (v.toNat + 255) := by
  rw [BitVec.ofNat_add, BitVec.ofNat_toNat, BitVec.setWidth_eq]
  exact BitVec.sub_eq_add_neg v 1#8

theorem decByte_z (v : Byte) (c : Bool) : (decByte v c).z = decide (v.toNat = 1) :=
  calc decide (v - 1#8 = 0#8)
      = decide (v.toNat = 1) := decide_eq_decide.2 (by bv_omega)

/-! ## Decimal adjustment (R180) -/

theorem daaByte_z (a : Byte) (n h c : Bool) : (daaByte a n h c).z = decide ((daaByte a n h c).res = 0#8) := by
  cases n <;> rfl

theorem daaByte_n (a : Byte) (n h c : Bool) : (daaByte a n h c).n = n := by cases n <;> rfl

theorem daaByte_h (a : Byte) (n h c : Bool) : (daaByte a n h c).h = false := by cases n <;> rfl

theorem daaByte_c (a : Byte) (n h c : Bool) : (daaByte a n h c).c = (c || (!n && decide (a.toNat > 0x99))) := by
  cases n with
  | false => rfl
  | true => exact (Bool.or_false c).symm

/-- The two corrections have no bit in common, so they add up. -/
theorem daaAdjustAdd_toNat (a : Byte) (h c : Bool) :
    (daaAdjustAdd a h c).toNat =
      (if h = true ∨ a.toNat % 16 > 9 then 0x06 else 0) + (if c = true ∨ a.toNat > 0x99 then 0x60 else 0) := by
  simp only [daaAdjustAdd, Bool.or_eq_true, decide_eq_true_eq]
  split <;> split <;> rfl

theorem daaAdjustSub_toNat (h c : Bool) :
    (daaAdjustSub h c).toNat = (if h = true then 0x06 else 0) + (if c = true then 0x60 else 0) := by
  cases h <;> cases c <;> rfl

theorem daaByte_add_res_toNat (a : Byte) (h c : Bool) :
    (daaByte a false h c).res.toNat = (a.toNat + (if h = true ∨ a.toNat % 16 > 9 then 0x06 else 0)
      + (if c = true ∨ a.toNat > 0x99 then 0x60 else 0)) % 256 := by
  rw [Nat.add_assoc, ← daaAdjustAdd_toNat]
  exact BitVec.toNat_add _ _

theorem daaByte_sub_res_toNat (a : Byte) (h c : Bool) :
    ((daaByte a true h c).res.toNat : Int) =
      ((a.toNat : Int) - (if h = true then 0x06 else 0) - (if c = true then 0x60 else 0)) % 256 := by
  have hadjust := daaAdjustSub_toNat h c
  have hres : (daaByte a true h c).res.toNat = (2 ^ 8 - (daaAdjustSub h c).toNat + a.toNat) % 2 ^ 8 :=
    BitVec.toNat_sub _ _
  rw [hres, hadjust]
  split <;> split <;> omega

/-! ## Decimal arithmetic (R180) -/

/-- A result adjusted under its own flags. -/
def AluOut.adjusted (o : AluOut) : AluOut := daaByte o.res o.n o.h o.c

/-- An accumulator operation, then `DAA`: A and F.C are the adjusted result's. -/
theorem exec_aluForm_then_daa {op : AluOp} (hop : op ≠ .CP) {s : State} {i : Instr} {v : Byte}
    (hform : AluForm op s i v) :
    ∃ t u, exec i s = .next t ∧ exec .daa t = .next u ∧ u.a = (aluOut op s.a v s.flagC).adjusted.res ∧
      u.flagC = (aluOut op s.a v s.flagC).adjusted.c ∧ u.b = s.b := by
  obtain ⟨t, hexec, ha, ⟨hregs, -⟩, -, hn, hh, hc, -⟩ := completes_aluForm hop hform
  obtain ⟨u, hdaa, ha', ⟨hregs', -⟩, -, -, -, hc', -⟩ := completes_daa t
  rw [ha, hn, hh, hc] at ha' hc'
  exact ⟨t, u, hexec, hdaa, ha', hc', (hregs' .B (by decide)).trans (hregs .B (by decide))⟩

/-- The low correction of a sum is made where the low digits carry in decimal. -/
theorem addBytes_low_correction {a b : Byte} (ha : IsBcd a) (hb : IsBcd b) :
    (addBytes a b false).h = true ∨ (addBytes a b false).res.toNat % 16 > 9 ↔ a.toNat % 16 + b.toNat % 16 > 9 := by
  obtain ⟨-, ha0⟩ := ha
  obtain ⟨-, hb0⟩ := hb
  have hh : (addBytes a b false).h = true ↔ a.toNat % 16 + b.toNat % 16 > 0xF := decide_eq_true_iff
  have hsum : (addBytes a b false).res.toNat = (a.toNat + b.toNat) % 256 := addBytes_res_toNat a b false
  rw [hh, hsum]
  omega

/-- The high correction of a sum is made where the decimal sum carries. -/
theorem addBytes_high_correction {a b : Byte} (ha : IsBcd a) (hb : IsBcd b) :
    (addBytes a b false).c = true ∨ (addBytes a b false).res.toNat > 0x99 ↔ bcdValue a + bcdValue b > 99 := by
  obtain ⟨ha1, ha0⟩ := ha
  obtain ⟨hb1, hb0⟩ := hb
  have hc : (addBytes a b false).c = true ↔ a.toNat + b.toNat > 0xFF := decide_eq_true_iff
  have hsum : (addBytes a b false).res.toNat = (a.toNat + b.toNat) % 256 := addBytes_res_toNat a b false
  rw [hc, hsum, bcdValue, bcdValue]
  omega

/-- An adjusted sum: 6 more where the low digits carry, and ten sixteens less where the sum does. -/
theorem adjusted_addBytes_res {a b : Byte} (ha : IsBcd a) (hb : IsBcd b) :
    (addBytes a b false).adjusted.res.toNat + (if bcdValue a + bcdValue b > 99 then 160 else 0) =
      a.toNat + b.toNat + (if a.toNat % 16 + b.toNat % 16 > 9 then 6 else 0) := by
  have hres : (addBytes a b false).adjusted.res.toNat = _ := daaByte_add_res_toNat _ _ _
  have hsum : (addBytes a b false).res.toNat = (a.toNat + b.toNat) % 256 := addBytes_res_toNat a b false
  simp only [addBytes_low_correction ha hb, addBytes_high_correction ha hb] at hres
  rw [hres, hsum, bcdValue, bcdValue]
  obtain ⟨ha1, ha0⟩ := ha
  obtain ⟨hb1, hb0⟩ := hb
  clear hres hsum
  split <;> split <;> omega

theorem adjusted_addBytes_bcd {a b : Byte} (ha : IsBcd a) (hb : IsBcd b) :
    IsBcd (addBytes a b false).adjusted.res ∧
      bcdValue (addBytes a b false).adjusted.res = (bcdValue a + bcdValue b) % 100 := by
  have hres := adjusted_addBytes_res ha hb
  obtain ⟨ha1, ha0⟩ := ha
  obtain ⟨hb1, hb0⟩ := hb
  unfold bcdValue at hres ⊢
  unfold IsBcd
  split at hres <;> split at hres <;> omega

theorem adjusted_addBytes_c {a b : Byte} (ha : IsBcd a) (hb : IsBcd b) :
    (addBytes a b false).adjusted.c = decide (bcdValue a + bcdValue b > 99) := by
  simp only [← addBytes_high_correction ha hb, Bool.decide_or, Bool.decide_eq_true]
  exact daaByte_c _ false _ _

/-- An adjusted difference: 6 less where the low digits borrow, and ten sixteens more where the difference does. -/
theorem adjusted_subBytes_res {a b : Byte} (ha : IsBcd a) (hb : IsBcd b) :
    (subBytes a b false).adjusted.res.toNat + (if a.toNat % 16 < b.toNat % 16 then 6 else 0) + b.toNat =
      a.toNat + (if a.toNat < b.toNat then 160 else 0) := by
  have hres : ((subBytes a b false).adjusted.res.toNat : Int) = _ := daaByte_sub_res_toNat _ _ _
  have hdiff : ((subBytes a b false).res.toNat : Int) = ((a.toNat : Int) - b.toNat - (0 : Nat)) % 256 :=
    subBytes_res_toNat a b false
  have hh : (subBytes a b false).h = true ↔ a.toNat % 16 < b.toNat % 16 := decide_eq_true_iff
  have hc : (subBytes a b false).c = true ↔ a.toNat < b.toNat := decide_eq_true_iff
  simp only [hh, hc, hdiff] at hres
  obtain ⟨ha1, ha0⟩ := ha
  obtain ⟨hb1, hb0⟩ := hb
  split at hres <;> split at hres
  all_goals
    simp only [*, if_true, if_false]
    omega

theorem adjusted_subBytes_bcd {a b : Byte} (ha : IsBcd a) (hb : IsBcd b) :
    IsBcd (subBytes a b false).adjusted.res ∧
      (bcdValue (subBytes a b false).adjusted.res : Int) = ((bcdValue a : Int) - bcdValue b) % 100 := by
  have hres := adjusted_subBytes_res ha hb
  obtain ⟨ha1, ha0⟩ := ha
  obtain ⟨hb1, hb0⟩ := hb
  unfold IsBcd bcdValue
  split at hres <;> split at hres <;> omega

/-- Numbers of two digits are ordered as their bytes are. -/
theorem bcdValue_lt_iff {a b : Byte} (ha : IsBcd a) (hb : IsBcd b) :
    bcdValue a < bcdValue b ↔ a.toNat < b.toNat := by
  obtain ⟨ha1, ha0⟩ := ha
  obtain ⟨hb1, hb0⟩ := hb
  unfold bcdValue
  omega

theorem adjusted_subBytes_c {a b : Byte} (ha : IsBcd a) (hb : IsBcd b) :
    (subBytes a b false).adjusted.c = decide (bcdValue a < bcdValue b) :=
  decide_eq_decide.2 (bcdValue_lt_iff ha hb).symm

end Sys2Proof.Machine

namespace Sys2Proof.Proofs

open Sys2Proof.Machine

/-- Settles O22: ADD is the sum with no carry in, ADC the one with F.C. -/
theorem addAndAddWithCarry : Obligations.AddAndAddWithCarry :=
  ⟨aluEncoded .ADD, aluEncoded .ADC, fun _ _ _ =>
    ⟨fun hform => completes_addBytes (completes_aluForm (by decide) hform),
      fun hform => completes_addBytes (completes_aluForm (by decide) hform)⟩⟩

/-- Settles O23: SUB and CP are the difference with no carry in, SBC the one with F.C; CP writes its flags only. -/
theorem subtractAndCompare : Obligations.SubtractAndCompare := by
  refine ⟨aluEncoded .SUB, aluEncoded .SBC, aluEncoded .CP, fun s i v =>
    ⟨fun hform => ?_, fun hform => ?_, fun hform => ?_⟩⟩
  · obtain ⟨t, hexec, ha, hregs, hflags⟩ := completes_aluForm (by decide) hform
    exact ⟨t, hexec, ha.trans (subBytes_res_of_no_carry s.a v), hregs, subBytes_z_of_no_carry s.a v ▸ hflags⟩
  · obtain ⟨t, hexec, ha, hregs, hflags⟩ := completes_aluForm (by decide) hform
    exact ⟨t, hexec, ha ▸ subBytes_res_toNat s.a v s.flagC, hregs, subBytes_z s.a v s.flagC ▸ hflags⟩
  · rw [← subBytes_z_of_no_carry]
    exact completes_setFlags (exec_aluForm_CP hform)

/-- Settles O25: the result is written back to the operand it came from. -/
theorem incrementAndDecrementByte : Obligations.IncrementAndDecrementByte := by
  intro x s
  rw [← placeLoc_load, ← incByte_res _ s.flagC, ← incByte_z _ s.flagC,
    ← decByte_res _ s.flagC, ← decByte_z _ s.flagC]
  exact ⟨encode_incP x, encode_decP x, fun hx =>
    ⟨completes_writeBack (exec_incP x s) hx, completes_writeBack (exec_decP x s) hx⟩⟩

/-- Settles O26: the flags for every N, the result for each of its values. -/
theorem decimalAdjustFormula : Obligations.DecimalAdjustFormula := by
  intro s
  refine ⟨rfl, ?_⟩
  obtain ⟨t, hexec, ha, hregs, hflags⟩ := completes_daa s
  rw [daaByte_z, daaByte_n, daaByte_h, daaByte_c, ← ha] at hflags
  refine ⟨t, hexec, fun hn => ?_, fun hn => ?_, hregs, hflags⟩
  · rw [ha, hn, daaByte_add_res_toNat]
  · rw [ha, hn, daaByte_sub_res_toNat]

/-- Settles O27: the adjusted sum and the adjusted difference. -/
theorem decimalAdditionAndSubtraction : Obligations.DecimalAdditionAndSubtraction := by
  intro s ha hb
  constructor
  · obtain ⟨t, u, hexec, hdaa, hua, huc, hub⟩ :=
      exec_aluForm_then_daa (op := .ADD) (by decide) (.inl ⟨.reg .B, rfl, rfl⟩)
    obtain ⟨hbcd, hvalue⟩ := adjusted_addBytes_bcd ha hb
    exact ⟨t, u, hexec, hdaa, hua ▸ hbcd, hua ▸ hvalue, huc.trans (adjusted_addBytes_c ha hb), hub⟩
  · obtain ⟨t, u, hexec, hdaa, hua, huc, hub⟩ :=
      exec_aluForm_then_daa (op := .SUB) (by decide) (.inl ⟨.reg .B, rfl, rfl⟩)
    obtain ⟨hbcd, hvalue⟩ := adjusted_subBytes_bcd ha hb
    exact ⟨t, u, hexec, hdaa, hua ▸ hbcd, hua ▸ hvalue, huc.trans (adjusted_subBytes_c ha hb), hub⟩

/-- Settles O24: the result bit by bit, and Z from the result written. -/
theorem bitwiseOperations : Obligations.BitwiseOperations := by
  refine ⟨aluEncoded .AND, aluEncoded .XOR, aluEncoded .OR, fun s i v =>
    ⟨fun hform => ?_, fun hform => ?_, fun hform => ?_⟩⟩
  · obtain ⟨t, hexec, ha, hregs, hflags⟩ := completes_aluForm (by decide) hform
    exact ⟨t, hexec, fun k => ha ▸ BitVec.getLsbD_and, hregs, ha ▸ hflags⟩
  · obtain ⟨t, hexec, ha, hregs, hflags⟩ := completes_aluForm (by decide) hform
    exact ⟨t, hexec, fun k => ha ▸ BitVec.getLsbD_xor, hregs, ha ▸ hflags⟩
  · obtain ⟨t, hexec, ha, hregs, hflags⟩ := completes_aluForm (by decide) hform
    exact ⟨t, hexec, fun k => ha ▸ BitVec.getLsbD_or, hregs, ha ▸ hflags⟩

/-- Settles O28: CPL writes A and the flags, SCF and CCF the flags alone. -/
theorem complementAndCarryInstructions : Obligations.ComplementAndCarryInstructions := by
  intro s
  refine ⟨rfl, rfl, rfl, ?_, completes_setFlags (exec_eq_shape .scf s),
    completes_setFlags (exec_eq_shape .ccf s)⟩
  obtain ⟨t, hexec, ha, hregs, hflags⟩ :=
    completes_takesResult (o := ⟨s.a ^^^ 0xFF#8, s.flagZ, true, true, s.flagC⟩) (exec_eq_shape .cpl s)
  refine ⟨t, hexec, fun k hk => ?_, hregs, hflags⟩
  have hnot : t.a = ~~~s.a := ha.trans BitVec.xor_allOnes
  rw [hnot, BitVec.getLsbD_not, decide_eq_true hk, Bool.true_and]

end Sys2Proof.Proofs
end

section
/-! SUPPORT. 16-bit arithmetic: the rows of the family write a sum or a difference to a pair, which is never AF; `ADD`
writes its flags after it. -/

namespace Sys2Proof.Machine

/-! ## Encodings of the families -/

theorem encode_addHL (p : Pair) : encode (addHL p) = [BitVec.ofNat 8 (0x09 + 16 * pairCode p)] := by cases p <;> rfl

theorem encode_incPair (p : Pair) : encode (incPair p) = [BitVec.ofNat 8 (0x03 + 16 * pairCode p)] := by
  cases p <;> rfl

theorem encode_decPair (p : Pair) : encode (decPair p) = [BitVec.ofNat 8 (0x0B + 16 * pairCode p)] := by
  cases p <;> rfl

/-! ## The results as exact numbers -/

theorem addWords_res_toNat (x v : Word) : (addWords x v).res.toNat = (x.toNat + v.toNat) % 65536 :=
  BitVec.toNat_ofNat _ 16

theorem word_add_one_toNat (w : Word) : (w + 1#16).toNat = (w.toNat + 1) % 65536 := BitVec.toNat_add w 1#16

theorem word_sub_one_toNat (w : Word) : (w - 1#16).toNat = (w.toNat + 65535) % 65536 :=
  calc (w - 1#16).toNat
      = (65535 + w.toNat) % 65536 := BitVec.toNat_sub w 1#16
    _ = (w.toNat + 65535) % 65536 := by rw [Nat.add_comm]

/-! ## What the rows leave -/

/-- A row that writes a pair and nothing else (R201, R202). -/
theorem completes_setPair {i : Instr} {s : State} {p : Pair} {v : Word}
    (hi : exec i s = .next (s.setReg16 (pairReg p) v)) :
    Completes i s fun t => (t.reg16 (pairReg p)).toNat = v.toNat ∧ KeepsRegs (halves (pairReg p)) s t ∧
      (p ≠ .SP → t.sp = s.sp) ∧ t.f = s.f ∧ t.pc = s.pc ∧ KeepsControl s t ∧ KeepsMemory s t :=
  ⟨_, hi, congrArg BitVec.toNat (reg16_setReg16_self s _ v (pairReg_ne_AF p)), KeepsRegs_setReg16 s _ v,
    fun hsp => s.setReg16_sp (mt (pairReg_eq_SP_iff p).1 hsp) v, s.setReg16_f (pairReg_ne_AF p) v,
    s.setReg16_pc _ v, KeepsControl_setReg16 s _ v, KeepsMemory_setReg16 s _ v⟩

end Sys2Proof.Machine

namespace Sys2Proof.Proofs

open Sys2Proof.Machine

/-- Settles O29: a write of HL, and of the flags after it, Z among them with the value it had. -/
theorem addPairToHL : Obligations.AddPairToHL := by
  intro p s
  refine ⟨encode_addHL p, _, exec_addHL p s, ?_, ?_, FlagsAre_setFlags _ _ _ _ _⟩
  · calc ((s.setReg16 .HL (addWords (s.reg16 .HL) (s.reg16 (pairReg p))).res).reg16 .HL).toNat
        = (addWords (s.reg16 .HL) (s.reg16 (pairReg p))).res.toNat := by rw [reg16_setReg16_self s .HL _ nofun]
      _ = ((s.reg16 .HL).toNat + (s.reg16 (pairReg p)).toNat) % 65536 := addWords_res_toNat _ _
  · exact ChangesRegs_setFlags _ _ _ _ _ _ _ (ChangesRegs_setReg16_HL s _)

/-- Settles O30: a write of the pair, which is one more or one less. -/
theorem incrementAndDecrementPair : Obligations.IncrementAndDecrementPair := by
  intro p s
  rw [← word_add_one_toNat, ← word_sub_one_toNat]
  exact ⟨encode_incPair p, encode_decPair p, completes_setPair (exec_incPair p s), completes_setPair (exec_decPair p s)⟩

end Sys2Proof.Proofs
end

section
/-! SUPPORT. Rotates and shifts: every result and carry bit by bit, the rows of the family as a result written back to
an operand, and `RL` as a rotation by one place of a register with the carry flag below it. -/

namespace Sys2Proof.Machine

theorem encode_rotP (op : RotOp) (x : Place8) :
    encode (rotP op x) = [0xCB, BitVec.ofNat 8 (8 * rotCode op + placeCode x)] := by
  cases x with
  | reg r => cases op <;> cases r <;> rfl
  | mHL => cases op <;> rfl

/-! ## Results and carries, bit by bit (R214 to R221) -/

theorem getElem_bitByte (b : Bool) (k : Nat) (hk : k < 8) : (bitByte b)[k] = (decide (k = 0) && b) := by
  cases b <;> simp [bitByte]

theorem shiftedLeft_shiftLeft_or (v : Byte) (b : Bool) : ShiftedLeft v ((v <<< 1) ||| bitByte b) b := by
  refine ⟨fun k hk => ?_, by simp [getElem_bitByte]⟩
  have hlt : k + 1 < 8 := by omega
  rw [BitVec.getLsbD_eq_getElem hlt, BitVec.getLsbD_eq_getElem (Nat.lt_of_succ_lt hlt)]
  simp [getElem_bitByte]

theorem shiftedRight_ushiftRight_or (v : Byte) (b : Bool) : ShiftedRight v ((v >>> 1) ||| (bitByte b <<< 7)) b :=
  ⟨fun k hk => by simp [hk, Nat.add_comm 1 k], by simp [getElem_bitByte]⟩

theorem shiftedLeft_shiftLeft (v : Byte) : ShiftedLeft v (v <<< 1) false := by
  simpa [bitByte] using shiftedLeft_shiftLeft_or v false

theorem shiftedRight_ushiftRight (v : Byte) : ShiftedRight v (v >>> 1) false := by
  simpa [bitByte] using shiftedRight_ushiftRight_or v false

/-- The bit that `SRA` keeps (R219). -/
theorem and_signBit (v : Byte) : v &&& 0x80#8 = bitByte (v.getLsbD 7) <<< 7 := by
  refine (BitVec.and_twoPow v 7).trans ?_
  cases v.getLsbD 7 <;> rfl

theorem swapNibbles_bits (v : Byte) : ∀ k < 4, ((v <<< 4) ||| (v >>> 4)).getLsbD k = v.getLsbD (k + 4) ∧
    ((v <<< 4) ||| (v >>> 4)).getLsbD (k + 4) = v.getLsbD k := by
  intro k hk
  have hlow : k < 8 := by omega
  have hhigh : k + 4 < 8 := by omega
  constructor
  · simp [hk, hlow, Nat.add_comm 4 k]
  · have hout : v.getLsbD (4 + (k + 4)) = false := BitVec.getLsbD_of_ge v _ (by omega)
    simp [hlow, hhigh, hout]

/-- The pure function meets the bitwise description of every operation. -/
theorem rotatesTo_rotOut (op : RotOp) (v : Byte) (cin : Bool) :
    RotatesTo op v cin (rotOut op v cin).1 (rotOut op v cin).2 := by
  cases op with
  | RLC | RL => exact ⟨shiftedLeft_shiftLeft_or v _, rfl⟩
  | RRC | RR => exact ⟨shiftedRight_ushiftRight_or v _, rfl⟩
  | SLA => exact ⟨shiftedLeft_shiftLeft v, rfl⟩
  | SRL => exact ⟨shiftedRight_ushiftRight v, rfl⟩
  | SRA =>
    refine ⟨?_, rfl⟩
    rw [rotOut, and_signBit]
    exact shiftedRight_ushiftRight_or v _
  | SWAP => exact ⟨swapNibbles_bits v, rfl⟩

/-! ## What the rows leave -/

/-- A rotate's result and flags, with Z as given; N and H are 0 (R209). -/
def rotAluOut (op : RotOp) (v : Byte) (cin z : Bool) : AluOut :=
  ⟨(rotOut op v cin).1, z, false, false, (rotOut op v cin).2⟩

theorem rotAcc_eq_writeBack (op : RotOp) (s : State) :
    rotAcc op s = writeBack (.reg .A) (rotAluOut op s.a s.flagC false) s := rfl

theorem rotLoc_eq_writeBack (op : RotOp) (l : Loc8) (s : State) :
    rotLoc op l s = writeBack l
      (rotAluOut op (l.load s) s.flagC (decide ((rotOut op (l.load s) s.flagC).1 = 0#8))) s := rfl

/-- The accumulator rotates write the result to A, with Z cleared (R210 to R213). -/
theorem completes_rotAcc {i : Instr} {op : RotOp} {s : State} (hi : exec i s = rotAcc op s) :
    Completes i s fun t => RotatesTo op s.a s.flagC t.a t.flagC ∧ ChangesRegs [.A] s t ∧
      FlagsAre t false false false t.flagC := by
  obtain ⟨t, hexec, ha, hregs, hz, hn, hh, hc, hlow⟩ := completes_takesResult (hi.trans (rotAcc_eq_writeBack op s))
  refine ⟨t, hexec, ?_, hregs, hz, hn, hh, rfl, hlow⟩
  rw [ha, hc]
  exact rotatesTo_rotOut op s.a s.flagC

/-- The prefixed rows write the result back to the operand (R209). -/
theorem completes_rotP (op : RotOp) {x : Place8} {s : State} (hx : placeWritable s x) :
    Completes (rotP op x) s fun t => ∃ r c, RotatesTo op (placeValue s x) s.flagC r c ∧ WritesPlace x r s t ∧
      FlagsAre t (decide (r = 0#8)) false false c := by
  obtain ⟨t, hexec, hwrites, hflags⟩ :=
    completes_writeBack ((exec_rotP op x s).trans (rotLoc_eq_writeBack op (placeLoc x) s)) hx
  rw [← placeLoc_load]
  exact ⟨t, hexec, _, _, rotatesTo_rotOut op _ s.flagC, hwrites, hflags⟩

/-! ## `RL` on the ring of a register and the carry (R216) -/

/-- A byte register with the carry flag below its bit 0: the nine bits that `RL` rotates. -/
def State.carryRing (s : State) (r : Reg8) : BitVec 9 := (s.reg8 r).concat s.flagC

/-- A rotation moves every bit along the ring; 8 is -1 modulo 9. -/
theorem getLsbD_rotateLeft_ring (x : BitVec 9) (n : Nat) {k : Nat} (hk : k < 9) :
    (x.rotateLeft n).getLsbD k = x.getLsbD ((k + 8 * n) % 9) := by
  rw [BitVec.getLsbD_rotateLeft, Bool.cond_decide]
  split
  · congr 1
    omega
  · rw [decide_eq_true hk, Bool.true_and]
    congr 1
    omega

theorem concat_eq_rotateLeft {v r : Byte} {b : Bool} (h : ShiftedLeft v r b) :
    r.concat (v.getLsbD 7) = (v.concat b).rotateLeft 1 := by
  obtain ⟨hshift, hlow⟩ := h
  apply BitVec.eq_of_getLsbD_eq
  intro k hk
  rw [getLsbD_rotateLeft_ring _ _ hk]
  rcases k with _ | _ | k
  · exact BitVec.getLsbD_concat_zero.trans BitVec.getLsbD_concat_succ.symm
  · exact BitVec.getLsbD_concat_succ.trans (hlow.trans BitVec.getLsbD_concat_zero.symm)
  · have hindex : (k + 1 + 1 + 8 * 1) % 9 = k + 1 := by omega
    rw [hindex, BitVec.getLsbD_concat_succ, BitVec.getLsbD_concat_succ]
    exact hshift k (by omega)

theorem rotateLeft_one_rotateLeft (x : BitVec 9) (n : Nat) :
    (x.rotateLeft 1).rotateLeft n = x.rotateLeft (n + 1) := by
  apply BitVec.eq_of_getLsbD_eq
  intro k hk
  rw [getLsbD_rotateLeft_ring _ _ hk, getLsbD_rotateLeft_ring _ _ (by omega), getLsbD_rotateLeft_ring _ _ hk]
  congr 1
  omega

theorem rotateLeft_ring_zero (x : BitVec 9) : x.rotateLeft 0 = x := by
  apply BitVec.eq_of_getLsbD_eq
  intro k hk
  rw [getLsbD_rotateLeft_ring _ _ hk, Nat.mul_zero, Nat.add_zero, Nat.mod_eq_of_lt hk]

theorem rotateLeft_ring_nine (x : BitVec 9) : x.rotateLeft 9 = x :=
  BitVec.rotateLeft_mod_eq_rotateLeft.symm.trans (rotateLeft_ring_zero x)

/-- One `RL` of a register turns its ring by one place. -/
theorem exec_rl_reg (r : Reg8) (s : State) :
    ∃ t, exec (rotP .RL (.reg r)) s = .next t ∧ t.carryRing r = (s.carryRing r).rotateLeft 1 ∧ KeepsRegs [r] s t ∧
      t.mem = s.mem := by
  refine ⟨_, exec_rotP .RL (.reg r) s, ?_, fun q hq => ?_, by simp⟩
  · rw [State.carryRing, State.setFlags_reg8, State.reg8_setReg8_self, State.setFlags_flagC]
    exact concat_eq_rotateLeft (shiftedLeft_shiftLeft_or _ _)
  · rw [State.setFlags_reg8, State.reg8_setReg8_ne _ _ _ _ (List.ne_of_not_mem_cons hq)]

theorem execTimes_rl_reg (r : Reg8) (n : Nat) (s : State) :
    ∃ t, execTimes (rotP .RL (.reg r)) n s = .next t ∧ t.carryRing r = (s.carryRing r).rotateLeft n ∧
      KeepsRegs [r] s t ∧ t.mem = s.mem := by
  induction n generalizing s with
  | zero => exact ⟨s, rfl, (rotateLeft_ring_zero _).symm, fun _ _ => rfl, rfl⟩
  | succ n ih =>
    obtain ⟨t, hexec, hring, hregs, hmem⟩ := exec_rl_reg r s
    obtain ⟨u, hexec', hring', hregs', hmem'⟩ := ih t
    refine ⟨u, ?_, ?_, fun q hq => (hregs' q hq).trans (hregs q hq), hmem'.trans hmem⟩
    · rw [execTimes, hexec]
      exact hexec'
    · rw [hring', hring, rotateLeft_one_rotateLeft]

theorem carryRing_inj {s t : State} {r : Reg8} (h : t.carryRing r = s.carryRing r) :
    t.reg8 r = s.reg8 r ∧ t.flagC = s.flagC := by
  constructor
  · apply BitVec.eq_of_getLsbD_eq
    intro k _
    simpa [State.carryRing] using congrArg (fun x => x.getLsbD (k + 1)) h
  · simpa [State.carryRing] using congrArg (fun x => x.getLsbD 0) h

end Sys2Proof.Machine

namespace Sys2Proof.Proofs

open Sys2Proof.Machine

/-- Settles O31: the four rows are accumulator rotates. -/
theorem accumulatorRotates : Obligations.AccumulatorRotates := by
  refine ⟨rfl, rfl, rfl, rfl, fun s => ?_⟩
  simp only [List.forall_mem_cons]
  exact ⟨completes_rotAcc (exec_eq_shape .rlca s), completes_rotAcc (exec_eq_shape .rrca s),
    completes_rotAcc (exec_eq_shape .rla s), completes_rotAcc (exec_eq_shape .rra s), List.forall_mem_nil _⟩

/-- Settles O32: every row writes the result of the pure function back to its operand. -/
theorem prefixedRotatesAndShifts : Obligations.PrefixedRotatesAndShifts :=
  fun op x _ => ⟨encode_rotP op x, completes_rotP op⟩

/-- Settles O33: nine rotations by one place bring the ring of nine bits back. -/
theorem rotateLeftNineTimesRestores : Obligations.RotateLeftNineTimesRestores := by
  intro r s
  obtain ⟨t, hexec, hring, hregs, hmem⟩ := execTimes_rl_reg r 9 s
  obtain ⟨hreg, hcarry⟩ := carryRing_inj (hring.trans (rotateLeft_ring_nine _))
  exact ⟨t, hexec, hreg, hcarry, hregs, hmem⟩

end Sys2Proof.Proofs
end

section
/-! SUPPORT. The bit instructions: the encodings of the three families from the fields of the opcode byte, a byte with one
bit cleared or set, and the rows that write a byte back to their operand and leave F. -/

namespace Sys2Proof.Machine

/-! ## Encodings of the families -/

/-- Every operand is the one of its code in a field `r` (R72). -/
theorem exists_placeOfCode_eq (x : Place8) : ∃ z : Fin 8, placeCode x = z ∧ placeOfCode z = x := by
  cases x with
  | mHL => exact ⟨6, rfl, rfl⟩
  | reg r =>
    cases r with
    | B => exact ⟨0, rfl, rfl⟩
    | C => exact ⟨1, rfl, rfl⟩
    | D => exact ⟨2, rfl, rfl⟩
    | E => exact ⟨3, rfl, rfl⟩
    | H => exact ⟨4, rfl, rfl⟩
    | L => exact ⟨5, rfl, rfl⟩
    | A => exact ⟨7, rfl, rfl⟩

theorem index8_val (b : Fin 8) : index8 b = b := Fin.ofNat_val_eq_self b

/-- The rows of block `q` of the prefixed grid, whose field `y` is a bit number, are encoded by their fields (R71, R89). -/
theorem encode_bitRow {row : Fin 8 → Place8 → Instr} {q : Fin 4}
    (hgrid : ∀ y z : Fin 8, encode (row (index8 y) (placeOfCode z)) = [Config.prefixByte, opByte q y z])
    (b : Fin 8) (x : Place8) :
    encode (row b x) = [0xCB, BitVec.ofNat 8 (64 * q.val + 8 * b.val + placeCode x)] := by
  obtain ⟨z, hcode, hplace⟩ := exists_placeOfCode_eq x
  have hencode := hgrid b z
  rw [index8_val, hplace] at hencode
  rw [hcode]
  exact hencode

theorem encode_bitP (b : Fin 8) (x : Place8) :
    encode (bitP b x) = [0xCB, BitVec.ofNat 8 (0x40 + 8 * b.val + placeCode x)] := encode_bitRow encode_bitP_ofCode b x

theorem encode_resP (b : Fin 8) (x : Place8) :
    encode (resP b x) = [0xCB, BitVec.ofNat 8 (0x80 + 8 * b.val + placeCode x)] := encode_bitRow encode_resP_ofCode b x

theorem encode_setP (b : Fin 8) (x : Place8) :
    encode (setP b x) = [0xCB, BitVec.ofNat 8 (0xC0 + 8 * b.val + placeCode x)] := encode_bitRow encode_setP_ofCode b x

/-! ## One bit cleared or set (R231, R232) -/

theorem getLsbD_bitMask {b k : Nat} (hk : k < 8) : (1#8 <<< b).getLsbD k = decide (k = b) := by
  refine (BitVec.getLsbD_twoPow b k).trans ?_
  rw [← Bool.decide_and]
  exact decide_eq_decide.2 (by omega)

theorem getLsbD_clearedBit (v : Byte) (b : Nat) {k : Nat} (hk : k < 8) :
    (v &&& ~~~(1#8 <<< b)).getLsbD k = (v.getLsbD k && decide (k ≠ b)) := by
  rw [BitVec.getLsbD_and, BitVec.getLsbD_not, getLsbD_bitMask hk, decide_eq_true hk, Bool.true_and, decide_not]

theorem getLsbD_setBit (v : Byte) (b : Nat) {k : Nat} (hk : k < 8) :
    (v ||| 1#8 <<< b).getLsbD k = (v.getLsbD k || decide (k = b)) := by
  rw [BitVec.getLsbD_or, getLsbD_bitMask hk]

/-! ## What the rows leave -/

/-- A row that writes a byte to its operand, which can be written, and nothing to F. -/
theorem completes_placeStore {i : Instr} {s : State} {x : Place8} {v : Byte}
    (hi : exec i s = (placeLoc x).store v s) (hx : placeWritable s x) :
    Completes i s fun t => t.f = s.f ∧ WritesPlace x v s t := by
  obtain ⟨t, hstore, hwrites, hf⟩ := placeLoc_store s x v hx
  exact ⟨t, hi.trans hstore, hf, hwrites⟩

/-- `RES` clears the bit that it names (R231). -/
theorem completes_resP (b : Fin 8) {x : Place8} {s : State} (hx : placeWritable s x) :
    Completes (resP b x) s fun t => t.f = s.f ∧ ∃ r, WritesPlace x r s t ∧
      ∀ k < 8, r.getLsbD k = ((placeValue s x).getLsbD k && decide (k ≠ b.val)) := by
  obtain ⟨t, hexec, hf, hwrites⟩ := completes_placeStore (exec_resP b x s) hx
  rw [← placeLoc_load]
  exact ⟨t, hexec, hf, _, hwrites, fun _ => getLsbD_clearedBit _ b⟩

/-- `SET` sets the bit that it names (R232). -/
theorem completes_setP (b : Fin 8) {x : Place8} {s : State} (hx : placeWritable s x) :
    Completes (setP b x) s fun t => t.f = s.f ∧ ∃ r, WritesPlace x r s t ∧
      ∀ k < 8, r.getLsbD k = ((placeValue s x).getLsbD k || decide (k = b.val)) := by
  obtain ⟨t, hexec, hf, hwrites⟩ := completes_placeStore (exec_setP b x s) hx
  rw [← placeLoc_load]
  exact ⟨t, hexec, hf, _, hwrites, fun _ => getLsbD_setBit _ b⟩

end Sys2Proof.Machine

namespace Sys2Proof.Proofs

open Sys2Proof.Machine

/-- Settles O35: both rows write a byte to the operand, which differs from its value in the one bit at most. -/
theorem resetAndSetBit : Obligations.ResetAndSetBit :=
  fun b x _ => ⟨encode_resP b x, encode_setP b x, fun hx => ⟨completes_resP b hx, completes_setP b hx⟩⟩

/-- Settles O34: the row writes the flags and nothing else. -/
theorem testBit : Obligations.TestBit := by
  intro b x s
  rw [← placeLoc_load]
  exact ⟨encode_bitP b x, completes_setFlags (exec_bitP b x s)⟩

end Sys2Proof.Proofs
end

section
/-! SUPPORT. Control transfer: a conditional row is its operation or nothing, a relative jump is a jump to the exact sum,
and what a call leaves, from which a return comes back. -/

namespace Sys2Proof.Machine

/-! ## Encodings of the families -/

theorem encode_jpCC (cc : Cond) (nn : Word) :
    encode (jpCC cc nn) = [BitVec.ofNat 8 (0xC2 + 8 * condCode cc), loByte nn, hiByte nn] := by cases cc <;> rfl

theorem encode_jrCC (cc : Cond) (e : Byte) : encode (jrCC cc e) = [BitVec.ofNat 8 (0x20 + 8 * condCode cc), e] := by
  cases cc <;> rfl

theorem encode_callCC (cc : Cond) (nn : Word) :
    encode (callCC cc nn) = [BitVec.ofNat 8 (0xC4 + 8 * condCode cc), loByte nn, hiByte nn] := by cases cc <;> rfl

theorem encode_retCC (cc : Cond) : encode (retCC cc) = [BitVec.ofNat 8 (0xC0 + 8 * condCode cc)] := by
  cases cc <;> rfl

theorem encode_rstT (k : Fin 8) : encode (rstT k) = [BitVec.ofNat 8 (0xC7 + 8 * k.val)] := by fin_cases k <;> rfl

/-! ## Conditions and jumps (R83, R241, R243) -/

theorem whenCond_of_cond {cc : Cond} {s : State} (h : s.cond cc = true) (k : State → Result) :
    whenCond cc k s = k s := if_pos h

theorem whenCond_of_not_cond {cc : Cond} {s : State} (h : s.cond cc = false) (k : State → Result) :
    whenCond cc k s = .next s := if_neg (Bool.eq_false_iff.1 h)

/-- A conditional jump is a write of PC in both cases. -/
theorem whenCond_jump (cc : Cond) (target : Word) (s : State) :
    whenCond cc (jump target) s = .next { s with pc := if s.cond cc then target else s.pc } := by
  cases hcond : s.cond cc with
  | true => exact whenCond_of_cond hcond _
  | false => exact whenCond_of_not_cond hcond _

/-- The target is the sum of the exact integers (R5, R77). -/
theorem jumpRel_eq_jump (e : Byte) (s : State) :
    jumpRel e s = jump (BitVec.ofInt 16 ((s.pc.toNat : Int) + e.toInt)) s :=
  congrArg (jump · s) (addOffset_res s.pc e)

theorem whenCond_jumpRel (cc : Cond) (e : Byte) (s : State) :
    whenCond cc (jumpRel e) s = whenCond cc (jump (BitVec.ofInt 16 ((s.pc.toNat : Int) + e.toInt))) s := by
  rw [whenCond, jumpRel_eq_jump, whenCond]

/-! ## Calls (R245, R253) -/

/-- No part of the frame of a transfer reads PC. -/
theorem TransfersOnly.setPc {ws : List (Word × Byte)} {s t : State} (h : TransfersOnly ws s t) (p : Word) :
    TransfersOnly ws s { t with pc := p } := h

/-- A row that calls `target`, where the push is accepted. -/
theorem completes_call {i : Instr} {s : State} {target : Word} (hi : exec i s = call target s)
    (hlow : s.Accepts (s.sp - 2#16)) (hhigh : s.Accepts (s.sp - 2#16 + 1#16)) :
    Completes i s fun t =>
      t.pc = target ∧ t.sp = s.sp - 2#16 ∧ TransfersOnly (wordCells (s.sp - 2#16) s.pc) s t := by
  obtain ⟨t, hpush, hsp, -, hframe⟩ := pushWord_next s s.pc hlow hhigh
  refine ⟨{ t with pc := target }, ?_, rfl, hsp, hframe.setPc target⟩
  rw [hi, call, hpush]
  rfl

/-- `CALL nn` and every `RST` are calls. -/
theorem exec_eq_call {i : Instr} {k : Fin 8} {nn : Word} (h : i = .call_nn nn ∨ i = rstT k) (s : State) :
    ∃ target, exec i s = call target s := by
  obtain rfl | rfl := h
  · exact ⟨nn, exec_eq_shape (.call_nn nn) s⟩
  · exact ⟨_, exec_rstT k s⟩

end Sys2Proof.Machine

namespace Sys2Proof.Proofs

open Sys2Proof.Machine

/-- Settles O37: the jumps of O36 to the next instruction's address plus the signed offset. -/
theorem relativeJumps : Obligations.RelativeJumps :=
  fun cc e s => ⟨rfl, encode_jrCC cc e, (exec_eq_shape (.jr_e e) s).trans (jumpRel_eq_jump e s),
    (exec_jrCC cc e s).trans ((whenCond_jumpRel cc e s).trans (whenCond_jump cc _ s))⟩

/-- Settles O40: the word on top of the stack after the call is the PC before it, and the return's move of SP undoes the
call's. -/
theorem callThenReturnComesBack : Obligations.CallThenReturnComesBack := by
  intro i k nn s hi hlow hhigh
  obtain ⟨target, hcall⟩ := exec_eq_call hi s
  obtain ⟨t, hexec, -, hsp, hregs, hf, hcontrol, hcells⟩ :=
    completes_call hcall (by simp [State.Accepts, hlow]) (by simp [State.Accepts, hhigh])
  have htop : t.topWord = s.pc := by rw [State.topWord, hsp, hcells.loadWord hlow hhigh]
  have hdrop : t.dropWord.sp = s.sp := by rw [State.dropWord_sp, hsp, BitVec.sub_add_cancel]
  exact ⟨t, { t.dropWord with pc := t.topWord }, hexec, exec_eq_shape .ret t, htop, hdrop, hregs, hf, hcontrol⟩

/-- Settles O36: each row is a write of PC. -/
theorem absoluteJumps : Obligations.AbsoluteJumps :=
  fun cc nn s => ⟨rfl, encode_jpCC cc nn, rfl, exec_eq_shape (.jp_nn nn) s, exec_eq_shape .jp_HL s,
    (exec_jpCC cc nn s).trans (whenCond_jump cc nn s)⟩

/-- Settles O38: a call wherever one is taken, and nothing where the condition fails. -/
theorem callsAndRestarts : Obligations.CallsAndRestarts :=
  fun cc k nn s => ⟨rfl, encode_callCC cc nn, encode_rstT k,
    fun hlow hhigh => ⟨completes_call (exec_eq_shape (.call_nn nn) s) hlow hhigh,
      completes_call (exec_rstT k s) hlow hhigh,
      fun hcond => completes_call ((exec_callCC cc nn s).trans (whenCond_of_cond hcond _)) hlow hhigh⟩,
    fun hcond => (exec_callCC cc nn s).trans (whenCond_of_not_cond hcond _)⟩

/-- Settles O39: the pop of PC, `RETI` with a write of `ime` after it. -/
theorem returns : Obligations.Returns :=
  fun cc s => ⟨rfl, encode_retCC cc, rfl, exec_eq_shape .ret s, exec_eq_shape .reti s, exec_retCC cc s⟩

end Sys2Proof.Proofs
end

section
/-! SUPPORT. The system rows: each answers one next state whatever the state before it is. -/

namespace Sys2Proof.Proofs

open Sys2Proof.Machine

/-- Settles O41: each row is a shared operation that writes `run`, `ime` or nothing, and `STOP`'s takes no operand. -/
theorem systemInstructions : Obligations.SystemInstructions :=
  fun n s => ⟨rfl, rfl, rfl, rfl, rfl, exec_eq_shape .nop s, exec_eq_shape .halt s, exec_eq_shape (.stop n) s,
    exec_eq_shape .di s, exec_eq_shape .ei s⟩

end Sys2Proof.Proofs
end

section
/-! SUPPORT. The undefined bytes: what the decoder, the step and the encoder make of them. -/

namespace Sys2Proof

open Machine

/-! ## The rows of the undefined bytes (R90) -/

theorem encode_undefinedOp (u : UndefinedOp) : encode (undefinedOp u) = [undefinedOpByte u] := by cases u <;> rfl

theorem undefinedOpByte_mem (u : UndefinedOp) : undefinedOpByte u ∈ undefinedBytes := by cases u <;> decide

theorem exists_undefinedOpByte_eq : ∀ {b : Byte}, b ∈ undefinedBytes → ∃ u, undefinedOpByte u = b := by
  simp only [undefinedBytes, List.forall_mem_cons]
  exact ⟨⟨.xD3, rfl⟩, ⟨.xDB, rfl⟩, ⟨.xDD, rfl⟩, ⟨.xE3, rfl⟩, ⟨.xE4, rfl⟩, ⟨.xEB, rfl⟩, ⟨.xEC, rfl⟩, ⟨.xED, rfl⟩,
    ⟨.xF4, rfl⟩, ⟨.xFC, rfl⟩, ⟨.xFD, rfl⟩, by simp⟩

/-- An undefined byte decodes to its own row, whatever bytes follow. -/
theorem decode3_undefinedOpByte (u : UndefinedOp) (b1 b2 : Byte) :
    decode3 (undefinedOpByte u) b1 b2 = undefinedOp u := by cases u <;> rfl

/-- An undefined byte is not stepped past (R270). -/
@[simp] theorem pcAdvance_undefinedOp (u : UndefinedOp) : (undefinedOp u).pcAdvance = 0 := by cases u <;> rfl

namespace Machine

/-! ## The decode failure (R270) -/

/-- The state after a decode failure: only the run state is written. -/
theorem exec_undefinedOp_next (u : UndefinedOp) (s : State) :
    exec (undefinedOp u) s = .next { s with run := .decodeFault s.pc (undefinedOpByte u) } := exec_undefinedOp u s

/-- A step onto an undefined byte writes the run state and the draw counter, and nothing else. -/
theorem step_undefinedByte {s : State} (hrun : s.run.steppable = true) (hop : s.fetchByte s.pc ∈ undefinedBytes) :
    step s = .next { s with run := .decodeFault s.pc (s.fetchByte s.pc), draws := s.draws + 1 } := by
  obtain ⟨u, hu⟩ := exists_undefinedOpByte_eq hop
  have hfetch : s.fetchInstr = undefinedOp u := by rw [State.fetchInstr, ← hu, decode3_undefinedOpByte]
  rw [step_steppable s hrun, hfetch, exec_undefinedOp_next, ← hu]
  simp [State.advance]

/-! ## Run states -/

/-- The run states in which a step executes an instruction (R272). -/
theorem RunState.steppable_iff (r : RunState) : r.steppable = true ↔ r = .running ∨ r = .breakHalted := by
  cases r <;> simp [RunState.steppable]

/-- The run states in which it does not (R273). -/
theorem RunState.not_steppable_iff (r : RunState) :
    r.steppable = false ↔ (∃ a op, r = .decodeFault a op) ∨ ∃ k, r = .lowPower k := by
  cases r <;> simp [RunState.steppable]

end Machine
end Sys2Proof

namespace Sys2Proof.Proofs

open Sys2Proof.Machine

/-- Settles O7: the step's next state is that of `step_undefinedByte`, which is stopped. -/
theorem undefinedByteStopsTheCore : Obligations.UndefinedByteStopsTheCore := by
  intro s hrun hop
  refine ⟨_, step_undefinedByte ((RunState.steppable_iff _).2 hrun) hop, rfl, rfl, fun r _ => ?_, rfl, rfl, rfl, rfl, rfl,
    rfl, step_stopped _ rfl⟩
  cases r <;> rfl

/-- Settles O6: neither run state lets a step execute an instruction. -/
theorem stoppedCoreChangesNothing : Obligations.StoppedCoreChangesNothing := by
  intro s a op k h
  refine step_stopped s ((RunState.not_steppable_iff _).2 ?_)
  exact h.imp (fun h => ⟨a, op, h⟩) (fun h => ⟨k, h⟩)

/-- Settles O8: the row is the one byte, and its meaning writes the run state alone. -/
theorem undefinedRowTakesTheDecodeFailure : Obligations.UndefinedRowTakesTheDecodeFailure := by
  intro u s
  refine ⟨encode_undefinedOp u, undefinedOpByte_mem u, _, exec_undefinedOp_next u s, rfl, fun r _ => ?_, rfl, rfl, rfl,
    rfl, rfl, rfl, rfl, fun _ => rfl⟩
  cases r <;> rfl

end Sys2Proof.Proofs
end

section
/-! SUPPORT. What a step fetches: the instruction whose encoding stands at the program counter. -/

namespace Sys2Proof.Machine

/-- The bytes of an encoding at the program counter are fetched as that instruction: the first one fixes the format and
so the length, and no byte past it is read (R71, R276). -/
theorem State.fetchInstr_eq {s : State} {i : Instr}
    (h : ∀ (k : Nat) (hk : k < (encode i).length), s.fetchByte (s.pc + BitVec.ofNat 16 k) = (encode i)[k]) :
    s.fetchInstr = i := by
  obtain ⟨b0, bs, hi, hdec⟩ := exists_encode_decode3 i
  have hfirst : s.fetchByte s.pc = b0 := by simpa [hi] using h 0 (by simp [hi])
  have hlen : i.length = (formatOf b0).length := hdec ▸ length_decode3 ..
  have hlen' : s.fetchInstr.length = i.length := by rw [State.fetchInstr, length_decode3, hfirst, hlen]
  refine encode_injective (List.ext_getElem hlen' fun k _ hk => ?_)
  have hk3 : k < 3 := Nat.lt_of_lt_of_le hk (hlen.trans_le (formatOf_length_bounds b0).2)
  rw [← h k hk]
  simp only [State.fetchInstr, encode_decode3_eq_take, List.getElem_take]
  interval_cases k <;> simp

end Sys2Proof.Machine

namespace Sys2Proof.Proofs

open Sys2Proof.Machine

/-- Settles O5: the fetched instruction is `i`, and the step's advance is that of O47. -/
theorem stepRunsTheDecodedInstruction : Obligations.StepRunsTheDecodedInstruction := by
  intro i s hrun hbytes
  rw [step_steppable s ((RunState.steppable_iff _).2 hrun), State.fetchInstr_eq hbytes, State.advance, Instr.pcAdvance_eq]
  cases i.wellFormed <;> simp

end Sys2Proof.Proofs
end

section
/-! SUPPORT. What no instruction does: fault, refuse where no store is external, write the run state but for three, or
read the breakpoint set. -/

namespace Sys2Proof.Machine

/-- No store is refused where the policy is not `external` (R51). -/
theorem State.firstRefusing_eq_none {s : State} (hs : s.platform.cartStore ≠ .external) (as : List Word) :
    s.firstRefusing as = none := by
  by_contra h
  obtain ⟨a, ha⟩ := Option.ne_none_iff_exists'.1 h
  exact hs (State.external_of_refusing (State.kindAt_of_firstRefusing ha)).1

/-- The rows that leave the run state (R261, R262, R270). -/
theorem shapeOf_runAfter {i : Instr} (hwf : i.wellFormed = true) (hhalt : i ≠ .halt) (hstop : ∀ n, i ≠ .stop n)
    (s : State) : (shapeOf i).runAfter s = s.run := by
  cases i
  case halt => exact absurd rfl hhalt
  case stop n => exact absurd rfl (hstop n)
  case illegal_D3 | illegal_DB | illegal_DD | illegal_E3 | illegal_E4 | illegal_EB | illegal_EC | illegal_ED | illegal_F4
    | illegal_FC | illegal_FD => exact absurd hwf nofun
  all_goals rfl

/-- A step leaves the breakpoint set and is the same step under any other (R280, R281). -/
theorem step_withBp {s t : State} (h : step s = .next t) :
    t.bp = s.bp ∧ ∀ bs, step { s with bp := bs } = .next { t with bp := bs } := by
  by_cases hrun : s.run.steppable
  · rw [step_steppable s hrun] at h
    refine ⟨(exec_keeps h).1, fun bs => ?_⟩
    rw [step_steppable { s with bp := bs } hrun]
    refine (exec_withUnread h s.ime bs).trans ?_
    rw [← State.advance_ime s s.fetchInstr, ← exec_ime h]
    rfl
  · rw [step_stopped s (by simpa using hrun)] at h
    cases h
    exact ⟨rfl, fun bs => step_stopped _ (by simpa using hrun)⟩

end Sys2Proof.Machine

namespace Sys2Proof.Proofs

open Sys2Proof.Machine

/-- Settles O43: `exec_answers` where no address refuses, and the frame of every instruction. -/
theorem everyDefinedInstructionCompletes : Obligations.EveryDefinedInstructionCompletes := by
  intro i s hs
  have hanswers := exec_answers i s
  rw [State.Answers, State.firstRefusing_eq_none hs] at hanswers
  obtain ⟨t, h⟩ := hanswers
  obtain ⟨hbp, hplatform, hdraws⟩ := exec_keeps h
  exact ⟨t, h, hplatform, hbp, hdraws⟩

/-- Settles O45: `exec_run` says what each row leaves in the run state. -/
theorem runStateChangesOnlyByThree : Obligations.RunStateChangesOnlyByThree := by
  intro i s t h
  have hrun := exec_run h
  refine ⟨?_, ?_, fun hwf hhalt hstop => hrun.trans (shapeOf_runAfter hwf hhalt hstop s)⟩
  · rintro rfl
    exact hrun
  · rintro n rfl
    exact hrun

/-- Settles O46: no instruction reads the set (`exec_withUnread`) or writes it (`exec_keeps`). -/
theorem breakpointsAreTheHostsAlone : Obligations.BreakpointsAreTheHostsAlone :=
  fun _ _ bs h => (step_withBp h).imp_right (· bs)

end Sys2Proof.Proofs
end

section
/-! SUPPORT. Runs until a breakpoint (R282): each is the steps before its end. -/

namespace Sys2Proof.Machine

/-! ## One iteration -/

theorem runUntilBreak_at_breakpoint (n : Nat) {s : State} (hrun : s.run.steppable = true) (hpc : s.pc ∈ s.bp) :
    runUntilBreak (n + 1) s = .returned { s with run := .breakHalted } := by
  rw [runUntilBreak, if_pos hrun, if_pos hpc]

/-- An iteration returns on a stopped core, returns on a breakpoint, or is one step. -/
theorem runUntilBreak_succ_cases (n : Nat) (s : State) :
    (s.run.steppable = false ∧ runUntilBreak (n + 1) s = .returned s) ∨
    (s.run.steppable = true ∧ s.pc ∈ s.bp ∧ runUntilBreak (n + 1) s = .returned { s with run := .breakHalted }) ∨
    (s.pc ∉ s.bp ∧ ((∃ t, step s = .next t ∧ runUntilBreak (n + 1) s = runUntilBreak n t) ∨
      ∃ r, runUntilBreak (n + 1) s = .refused r)) := by
  by_cases hrun : s.run.steppable
  · by_cases hpc : s.pc ∈ s.bp
    · exact .inr (.inl ⟨hrun, hpc, runUntilBreak_at_breakpoint n hrun hpc⟩)
    · refine .inr (.inr ⟨hpc, ?_⟩)
      rw [runUntilBreak, if_pos hrun, if_neg hpc]
      cases step s with
      | next t => exact .inl ⟨t, rfl, rfl⟩
      | fault f => cases f
      | refused r => exact .inr ⟨r, rfl⟩
  · exact .inl ⟨by simpa using hrun, by rw [runUntilBreak, if_neg hrun]⟩

/-! ## A whole run -/

/-- `k` steps from `s` end in `t`, with no breakpoint at any program counter before. -/
def StepsTo (k : Nat) (s t : State) : Prop :=
  Host.Core.run Sys2Proof.core k s = .next t ∧
    ∀ j < k, ∃ w, Host.Core.run Sys2Proof.core j s = .next w ∧ w.pc ∉ w.bp

theorem StepsTo.zero (s : State) : StepsTo 0 s s := ⟨rfl, nofun⟩

theorem coreRun_succ {s u : State} (h : step s = .next u) (k : Nat) :
    Host.Core.run Sys2Proof.core (k + 1) s = Host.Core.run Sys2Proof.core k u := by
  simp only [Host.Core.run, Sys2Proof.core, h]

theorem StepsTo.succ {k : Nat} {s u t : State} (hstep : step s = .next u) (hpc : s.pc ∉ s.bp) (h : StepsTo k u t) :
    StepsTo (k + 1) s t := by
  obtain ⟨hrun, hbefore⟩ := h
  refine ⟨(coreRun_succ hstep k).trans hrun, fun j hj => ?_⟩
  cases j with
  | zero => exact ⟨s, rfl, hpc⟩
  | succ j => rw [coreRun_succ hstep]; exact hbefore j (by omega)

/-- What a run that returns has done: steps to a stopped state, or to one at a breakpoint, which it halts. -/
theorem runUntilBreak_returned {n : Nat} {s t : State} (h : runUntilBreak n s = .returned t) :
    ∃ k u, k < n ∧ StepsTo k s u ∧
      (u.run.steppable = false ∧ t = u ∨
        u.run.steppable = true ∧ u.pc ∈ u.bp ∧ t = { u with run := .breakHalted }) := by
  induction n generalizing s with
  | zero => cases h
  | succ n ih =>
    obtain ⟨hrun, hret⟩ | ⟨hrun, hpc, hret⟩ | ⟨hpc, ⟨v, hstep, hret⟩ | ⟨r, hret⟩⟩ := runUntilBreak_succ_cases n s <;>
      rw [hret] at h
    · cases h
      exact ⟨0, _, n.succ_pos, .zero _, .inl ⟨hrun, rfl⟩⟩
    · cases h
      exact ⟨0, _, n.succ_pos, .zero _, .inr ⟨hrun, hpc, rfl⟩⟩
    · obtain ⟨k, u, hk, hsteps, hend⟩ := ih h
      exact ⟨k + 1, u, Nat.succ_lt_succ hk, hsteps.succ hstep hpc, hend⟩
    · cases h

/-- A run that used up its bound is as many steps. -/
theorem runUntilBreak_unfinished {n : Nat} {s t : State} (h : runUntilBreak n s = .unfinished t) : StepsTo n s t := by
  induction n generalizing s with
  | zero => cases h; exact .zero _
  | succ n ih =>
    obtain ⟨-, hret⟩ | ⟨-, -, hret⟩ | ⟨hpc, ⟨v, hstep, hret⟩ | ⟨r, hret⟩⟩ := runUntilBreak_succ_cases n s <;>
      rw [hret] at h
    case inr.inr.inl => exact (ih h).succ hstep hpc
    all_goals cases h

/-- A step from a halted state is the step from the state before it was halted: both enter `Running` (R276). -/
theorem step_breakHalted {s : State} (h : s.run.steppable = true) : step { s with run := .breakHalted } = step s := by
  rw [step_steppable s h]
  exact step_steppable { s with run := .breakHalted } rfl

end Sys2Proof.Machine

namespace Sys2Proof.Proofs

open Sys2Proof.Machine

/-- Settles O57: the two ends of `runUntilBreak_returned`, the stopped one split by its run state. -/
theorem runUntilBreakEndsInThreeWays : Obligations.RunUntilBreakEndsInThreeWays := by
  refine ⟨fun n s t h => ?_, fun n _ => runUntilBreak_at_breakpoint n⟩
  obtain ⟨k, u, -, -, ⟨hstop, rfl⟩ | ⟨-, hpc, rfl⟩⟩ := runUntilBreak_returned h
  · exact .inr ((RunState.not_steppable_iff _).1 hstop)
  · exact .inl ⟨rfl, hpc⟩

/-- Settles O58: of the ends of `runUntilBreak_returned` only the one at a breakpoint is halted. -/
theorem runUntilBreakIsRepeatedStepping : Obligations.RunUntilBreakIsRepeatedStepping := by
  intro n s t h hhalted
  obtain ⟨k, u, hk, ⟨hsteps, hbefore⟩, ⟨hstop, rfl⟩ | ⟨hrun, hpc, rfl⟩⟩ := runUntilBreak_returned h
  · rw [hhalted] at hstop
    cases hstop
  · exact ⟨hpc, k, u, hk, hsteps, rfl, step_breakHalted hrun, hbefore⟩

end Sys2Proof.Proofs
end

section
/-! SUPPORT. The breakpoint set (R281, R283) and `dump` (R285). -/

namespace Sys2Proof.Machine

theorem mem_insertAddr {a b : Word} {bs : List Word} : b ∈ insertAddr a bs ↔ b = a ∨ b ∈ bs := by
  induction bs with
  | nil => simp [insertAddr]
  | cons c bs ih =>
    rw [insertAddr]
    split
    · exact List.mem_cons
    · split
      next hac => simp [hac]
      next => simp [ih, or_left_comm]

theorem insertAddr_ascending (a : Word) {bs : List Word} (h : bs.Pairwise (fun x y => x < y)) :
    (insertAddr a bs).Pairwise (fun x y => x < y) := by
  induction bs with
  | nil => exact List.pairwise_singleton _ a
  | cons c bs ih =>
    obtain ⟨hc, hbs⟩ := List.pairwise_cons.1 h
    rw [insertAddr]
    split
    next hac =>
      refine List.pairwise_cons.2 ⟨List.forall_mem_cons.2 ⟨hac, fun x hx => BitVec.lt_trans hac (hc x hx)⟩, h⟩
    next hac =>
      split
      · exact h
      next hne =>
        refine List.pairwise_cons.2 ⟨fun x hx => ?_, ih hbs⟩
        obtain rfl | hx := mem_insertAddr.1 hx
        · bv_omega
        · exact hc x hx

/-- Adding a member changes nothing (R283). -/
theorem insertAddr_of_mem {a : Word} {bs : List Word} (h : bs.Pairwise (fun x y => x < y)) (ha : a ∈ bs) :
    insertAddr a bs = bs := by
  induction bs with
  | nil => cases ha
  | cons c bs ih =>
    obtain ⟨hc, hbs⟩ := List.pairwise_cons.1 h
    obtain rfl | ha := List.mem_cons.1 ha
    · simp [insertAddr]
    · have hca : c < a := hc a ha
      rw [insertAddr, if_neg (by bv_omega), if_neg (by bv_omega), ih hbs ha]

theorem State.deleteBreakpoint_of_mem {s : State} {a : Word} (h : a ∈ s.bp) :
    s.deleteBreakpoint a = (.ok (), { s with bp := s.bp.filter (fun b => b ≠ a) }) := if_pos h

theorem State.deleteBreakpoint_of_not_mem {s : State} {a : Word} (h : a ∉ s.bp) :
    s.deleteBreakpoint a = (.error (.noSuchBreakpoint a), s) := if_neg h

theorem State.length_dump (s : State) (a : Word) (n : Nat) : (s.dump a n).length = n := by
  induction n generalizing a with
  | zero => rfl
  | succ n ih => rw [State.dump, List.length_cons, ih]

theorem State.getElem?_dump (s : State) (a : Word) {n i : Nat} (h : i < n) :
    (s.dump a n)[i]? = some (s.hostLoad (a + BitVec.ofNat 16 i)) := by
  induction n generalizing a i with
  | zero => cases h
  | succ n ih =>
    cases i with
    | zero => simp [State.dump]
    | succ i =>
      rw [State.dump, List.getElem?_cons_succ, ih (a + 1#16) (Nat.lt_of_succ_lt_succ h), BitVec.add_assoc,
        ← BitVec.ofNat_add, Nat.add_comm]

end Sys2Proof.Machine

namespace Sys2Proof.Proofs

open Sys2Proof.Machine

/-- Settles O59: the list operations on an ascending list. -/
theorem breakpointMaintenance : Obligations.BreakpointMaintenance := by
  intro s a b hs
  refine ⟨mem_insertAddr, insertAddr_ascending a hs, fun ha => ?_, rfl, fun ha => ?_,
    State.deleteBreakpoint_of_not_mem, rfl⟩
  · rw [State.addBreakpoint, insertAddr_of_mem hs ha]
  · rw [State.deleteBreakpoint_of_mem ha]
    exact ⟨rfl, by simp [and_comm], hs.filter _, rfl⟩

/-- Settles O60: the wrap of an address plus `i` is that of its `i` successors. -/
theorem dumpIsSequentialLoads : Obligations.DumpIsSequentialLoads :=
  fun s a n _ => ⟨s.length_dump a n, fun _ h => s.getElem?_dump a h⟩

end Sys2Proof.Proofs
end

section
/-! SUPPORT. The invariant under what the host does: launch, reset, breakpoints, stores and runs. -/

namespace Sys2Proof.Machine

/-! ## Data writes and runs -/

/-- Data writes keep the invariant: they leave PC, the run state and the breakpoint set. -/
theorem Writes.inv {s t : State} (hw : Writes s t) (hs : s.Inv) : t.Inv := by
  obtain ⟨-, hrun, hbp, -⟩ := hw.keepsControl
  refine ⟨hw.mem_wf hs.mem_wf, hw.flags_low hs.flags_low, hbp ▸ hs.bp_ascending, ?_⟩
  simpa [State.FaultRecorded, hrun, hw.pc] using hs.fault_recorded

/-- Every state that steps lead to from one that has the invariant has it. -/
theorem coreRun_inv {k : Nat} {s t : State} (hs : s.Inv) (h : Host.Core.run Sys2Proof.core k s = .next t) : t.Inv := by
  induction k generalizing s with
  | zero => cases h; exact hs
  | succ k ih =>
    cases hstep : step s with
    | next u => exact ih (Proofs.everyStepKeepsTheForm s u hs hstep) ((coreRun_succ hstep k).symm.trans h)
    | fault f => cases f
    | refused r => simp [Host.Core.run, Sys2Proof.core, hstep] at h

theorem runUntilBreak_returned_inv {n : Nat} {s t : State} (hs : s.Inv) (h : runUntilBreak n s = .returned t) :
    t.Inv := by
  obtain ⟨k, u, -, ⟨hsteps, -⟩, ⟨-, rfl⟩ | ⟨-, -, rfl⟩⟩ := runUntilBreak_returned h
  · exact coreRun_inv hs hsteps
  · obtain ⟨hmem, hflags, hbp, -⟩ := coreRun_inv hs hsteps
    exact ⟨hmem, hflags, hbp, trivial⟩

theorem runUntilBreak_unfinished_inv {n : Nat} {s t : State} (hs : s.Inv) (h : runUntilBreak n s = .unfinished t) :
    t.Inv := coreRun_inv hs (runUntilBreak_unfinished h).1

/-! ## Launch and reset -/

/-- Reset writes all but the storage, which alone has to be in its form before (R300). -/
theorem State.resetEvent_inv {s : State} (hs : s.mem.wf) (u : Unspecified) : (s.resetEvent u).Inv :=
  ⟨hs, and_flagMask_low u.f, .nil, trivial⟩

theorem State.postBootDMG_inv {s : State} (hs : s.mem.wf) : s.postBootDMG.Inv :=
  ⟨hs, and_flagMask_low _, .nil, trivial⟩

/-- The contents of a launch are placed in the canonical form of the storage (R40, R47). -/
theorem foldl_placeBytes_wf (contents : List (Word × List Byte)) {s : State} (hs : s.mem.wf) :
    (contents.foldl (fun (s : State) c => s.placeBytes c.1 c.2) s).mem.wf := by
  induction contents generalizing s with
  | nil => exact hs
  | cons c contents ih => exact ih (State.placeBytes_wf c.2 s c.1 hs)

theorem launch_inv (p : Platform) (contents : List (Word × List Byte)) (u : Unspecified) : (launch p contents u).Inv := by
  have hwf : ({ State.reset with platform := p } : State).mem.wf := reset_mem_wf
  exact State.resetEvent_inv (foldl_placeBytes_wf contents hwf) u

/-! ## The breakpoint set -/

/-- A set in ascending order keeps the invariant (R281). -/
theorem State.Inv.withBp {s : State} (hs : s.Inv) {bs : List Word} (hbs : bs.Pairwise (fun x y => x < y)) :
    State.Inv { s with bp := bs } := ⟨hs.mem_wf, hs.flags_low, hbs, hs.fault_recorded⟩

theorem State.deleteBreakpoint_inv {s : State} (hs : s.Inv) (a : Word) : (s.deleteBreakpoint a).2.Inv := by
  by_cases ha : a ∈ s.bp
  · rw [State.deleteBreakpoint_of_mem ha]
    exact hs.withBp (hs.bp_ascending.filter _)
  · rw [State.deleteBreakpoint_of_not_mem ha]
    exact hs

end Sys2Proof.Machine

namespace Sys2Proof.Proofs

open Sys2Proof.Machine

/-- Settles O51: each operation by its own lemma; a host store is a data write, and a run is steps and a write of the
run state. -/
theorem hostOperationsKeepTheForm : Obligations.HostOperationsKeepTheForm := by
  refine ⟨launch_inv, fun s hs => ⟨State.postBootDMG_inv hs.mem_wf, State.resetEvent_inv hs.mem_wf, fun a => ?_,
    State.deleteBreakpoint_inv hs, hs.withBp .nil, fun a v t h => (storeByte_writes .refl h).inv hs, fun n t h => ?_⟩⟩
  · exact hs.withBp (insertAddr_ascending a hs.bp_ascending)
  · exact h.elim (runUntilBreak_returned_inv hs) (runUntilBreak_unfinished_inv hs)

/-- Settles O56: `State.reset` is the reset with zero for every unspecified value. -/
theorem resetEventLeavesTheSpecsValues : Obligations.ResetEventLeavesTheSpecsValues := by
  refine ⟨fun s u => ?_, ⟨⟨0, 0, 0, 0, 0, 0, 0, 0, 0⟩, rfl⟩, fun s => ?_⟩
  · and_intros <;> rfl
  · and_intros <;> rfl

end Sys2Proof.Proofs
end
